-- ==== Sys2Proof/Word.lean ====
section
/-! DEFINITION. The machine words of the MG-7 links and the fixed-length tables of the part.
Bytes and words are bit vectors only where the manual treats them as bits (the serial links, the CRC,
the report mask); every quantity in a stated unit is a `Nat` or an `Int`. -/

namespace Sys2Proof

/-- One byte on a serial line (R18, R182). -/
abbrev Byte := BitVec 8

/-- The 16-bit CRC register (R19). -/
abbrev Word16 := BitVec 16

/-- The 32-bit report mask (R192, R195). -/
abbrev Word32 := BitVec 32

/-- Read entry `i` of a table of `n` records. -/
def tget {n : Nat} {α : Type} (v : Vector α n) (i : Fin n) : α := v[i.val]

/-- Write entry `i` of a table of `n` records. -/
def tset {n : Nat} {α : Type} (v : Vector α n) (i : Fin n) (x : α) : Vector α n := v.set i.val x i.isLt

@[simp] theorem tget_tset_same {n : Nat} {α : Type} (v : Vector α n) (i : Fin n) (x : α) :
    tget (tset v i x) i = x := by
  simp [tget, tset]

@[simp] theorem tget_tset_ne {n : Nat} {α : Type} (v : Vector α n) (i j : Fin n) (x : α) (h : j ≠ i) :
    tget (tset v i x) j = tget v j := by
  have : i.val ≠ j.val := fun e => h (Fin.ext e.symm)
  simp [tget, tset, this]

theorem tget_tset {n : Nat} {α : Type} (v : Vector α n) (i j : Fin n) (x : α) :
    tget (tset v i x) j = if j = i then x else tget v j := by
  by_cases h : j = i
  · subst h; simp
  · simp [h]

end Sys2Proof
end

