-- ==== Sys2Proof/Syntax.lean ====
section
/-! DEFINITION. The commands of the MG-7: one constructor of `Instr` for each row of spec/opcode_table.json,
with the operands the row's rule gives it, and the names of the part that the operands use.

A host request's operand is a `Body`: the fields of the request body in the order of R195, or the
mark that the body's length is not the one its kind takes (R185). Fields that R195 carries as numbers
stay numbers, out-of-range ones included, because the owner's own checks judge them.
An event's operand names the piece of the garden whose event it is, or carries what the pins show. -/

namespace Sys2Proof

/-! ### Numbered things (00_scope, Numbering) -/

/-- A mower slot, 0–2. -/
inductive Slot | s0 | s1 | s2
  deriving DecidableEq, Repr

/-- A receive line (R18). -/
inductive Line | a | b
  deriving DecidableEq, Repr

/-- A fountain nozzle, 1–4. -/
inductive Nozzle | n1 | n2 | n3 | n4
  deriving DecidableEq, Repr

/-- A calibration stake, 1–3. -/
inductive Stake | k1 | k2 | k3
  deriving DecidableEq, Repr

/-- A zone 1–48, held as its number less 1; zone 0 is `none : Option ZoneId`. -/
abbrev ZoneId := Fin 48

/-- A field source 1–40, held as its number less 1. -/
abbrev SourceId := Fin 40

/-- A light circuit 1–12, held as its number less 1. -/
abbrev Circuit := Fin 12

/-- An output channel 1–24, held as its number less 1. -/
abbrev ChannelId := Fin 24

/-! ### Fixed sets of names -/

/-- What the ground of a zone is (R2). -/
inductive ZoneKind | lawn | path | pond | bed | keepout
  deriving DecidableEq, Repr

/-- The kind of a field device (R23). -/
inductive SourceKind | mower | motion | wind | rain | dusk
  deriving DecidableEq, Repr

/-- The lines a source's frames are taken from (R22, R23). -/
inductive Binding | a | b | both
  deriving DecidableEq, Repr

/-- How the figure of merit is formed (R110). -/
inductive MeritType | both | flow | pressure
  deriving DecidableEq, Repr

/-- What the external driver of an output channel is (R172). -/
inductive ChannelType | relay | pwm | proportional
  deriving DecidableEq, Repr

/-- An output function (R172). -/
inductive Fn
  | filterPump | backwashValve | topupValve | fountainPump
  | nozzle (n : Nozzle) | charger (k : Slot) | light (c : Circuit)
  deriving DecidableEq, Repr

/-- A wet mark of a zone (R3). -/
inductive Mark | nozzle (n : Nozzle) | discharge
  deriving DecidableEq, Repr

/-- The named value of a field that may carry a code outside the field's set of names. -/
inductive Coded (α : Type) | named (a : α) | unknown (code : Nat)
  deriving DecidableEq, Repr

/-! ### Show steps (R130, R195) -/

/-- One show step, its fields as the message gives them. A ramp of `none` is DEFAULT.
`unknown` is a step whose kind is none of the ten. -/
inductive ShowStep
  | scene (circuits : List Circuit)
  | nozzle (nozzle target : Nat) (ramp : Option Nat)
  | light (circuit target : Nat) (ramp : Option Nat)
  | rampDefault (ms : Nat)
  | wait (ms : Nat)
  | save | restore | mark
  | repeatLoop (count : Nat)
  | sceneEnd
  | unknown (code : Nat)
  deriving DecidableEq, Repr

/-! ### Request bodies (R185, R195) -/

/-- The body of a request: its fields, or a length that its kind does not take (refused BAD_BODY, R185). -/
inductive Body (α : Type) | wrongLength | fields (a : α)
  deriving DecidableEq, Repr

/-- The unit that a UNIT_RESTART names: the row's own unit, or none of the six (refused NO_SUCH, R193). -/
inductive UnitRef | thisUnit | noSuchUnit
  deriving DecidableEq, Repr

/-- MAP_FILL (R15). -/
structure MapFill where
  firstCol : Nat
  lastCol : Nat
  firstRow : Nat
  lastRow : Nat
  zone : Nat
  deriving DecidableEq, Repr

/-- ZONE_SET (R16): every configured field of R2 except withdrawn. -/
structure ZoneSet where
  zone : Nat
  kind : Coded ZoneKind
  interval : Nat
  cutHeight : Nat
  circuit : Option Nat
  splash : Option Nat
  discharge : Bool
  escort : Nat
  deriving DecidableEq, Repr

/-- CELLS_GET (R1): one row and a span of columns. -/
structure CellsGet where
  row : Nat
  firstCol : Nat
  lastCol : Nat
  page : Nat
  deriving DecidableEq, Repr

/-- A paged query that names one numbered thing (R185). -/
structure PagedGet where
  number : Nat
  page : Nat
  deriving DecidableEq, Repr

/-- TIME_SET (R190). -/
structure TimeSet where
  day : Nat
  second : Nat
  deriving DecidableEq, Repr

/-- SOURCE_SET (R24). -/
structure SourceSet where
  source : Nat
  kind : Coded SourceKind
  binding : Coded Binding
  deriving DecidableEq, Repr

/-- CALIBRATE_STAKE (R45). -/
structure CalibrateStake where
  stake : Nat
  x : Nat
  y : Nat
  slot : Nat
  deriving DecidableEq, Repr

/-- FLEET_SET (R52). -/
structure FleetSet where
  slot : Nat
  source : Nat
  ratedWatts : Nat
  timeout : Nat
  dispatchLevel : Nat
  homeboundLevel : Nat
  deriving DecidableEq, Repr

/-- PLAN_SET (R98). -/
structure PlanSet where
  obstacleHold : Nat
  yieldTime : Nat
  dryWait : Nat
  quietStart : Nat
  quietEnd : Nat
  deriving DecidableEq, Repr

/-- WATER_LEVELS_SET (R103). -/
structure WaterLevelsSet where
  filterLow : Nat
  fountainLow : Nat
  fillOn : Nat
  fillOff : Nat
  deriving DecidableEq, Repr

/-- TOPUP_SET (R105). -/
structure TopupSet where
  capMinutes : Nat
  watts : Nat
  deriving DecidableEq, Repr

/-- FILTER_SET (R111), in the table's order. -/
structure FilterSet where
  k100 : Nat
  qMin : Nat
  dpMax : Nat
  dpClog : Nat
  merit : Coded MeritType
  settleTime : Nat
  lookBeyond : Nat
  monitorInterval : Nat
  confirmCount : Nat
  backwashTime : Nat
  backwashSpacing : Nat
  drainTime : Nat
  deriving DecidableEq, Repr

/-- PUMP_CURVE_SET (R112): the watts of steps 1–16, the minimum oxygen step and the fountain full watts. -/
structure PumpCurveSet where
  watts : Vector Nat 16
  minStep : Nat
  fullWatts : Nat
  deriving DecidableEq, Repr

/-- One value for each nozzle. -/
structure ByNozzle (α : Type) where
  n1 : α
  n2 : α
  n3 : α
  n4 : α
  deriving DecidableEq, Repr

/-- A nozzle's settings in SHOW_SET (R146). -/
structure NozzleSet where
  splashThreshold : Nat
  dryOffMinutes : Nat
  deriving DecidableEq, Repr

/-- SHOW_SET (R146). -/
structure ShowSet where
  calm : Nat
  cutoff : Nat
  nozzles : ByNozzle NozzleSet
  deriving DecidableEq, Repr

/-- LIGHT_SET (R152), in the table's order. -/
structure LightSet where
  circuit : Nat
  inUse : Bool
  ratedWatts : Nat
  frequency : Nat
  fadeRate : Nat
  duskLevel : Nat
  nightLevel : Nat
  lateLevel : Nat
  motionLevel : Nat
  openThreshold : Nat
  shortLimit : Nat
  deriving DecidableEq, Repr

/-- LIGHT_SCHEDULE_SET (R153). -/
structure LightScheduleSet where
  lateTime : Nat
  motionHold : Nat
  deriving DecidableEq, Repr

/-- MOTION_MAP_SET (R154). -/
structure MotionMapSet where
  entry : Nat
  source : Option Nat
  circuits : List Circuit
  deriving DecidableEq, Repr

/-- LIGHT_MANUAL (R157). -/
structure LightManual where
  circuit : Nat
  level : Option Nat
  deriving DecidableEq, Repr

/-- SUPPLY_SET (R166). -/
structure SupplySet where
  capacity : Nat
  reserve : Nat
  fullScale : Nat
  deriving DecidableEq, Repr

/-- CHANNEL_SET (R172). A function of `none` unbinds the channel; an interval of `none` is DEFAULT. -/
structure ChannelSet where
  channel : Nat
  type : Coded ChannelType
  function : Option (Coded Fn)
  interval : Option Nat
  tripCurrent : Nat
  deriving DecidableEq, Repr

/-! ### The commands -/

/-- A command of the MG-7. Pin voltages (`level`, `volts`, `pre`, `post`) are in microvolts
(assumption log 5); every docstring names the row and its rule. -/
inductive Instr
  /-- POWER_ON (R189): `level` is the voltage on LEVEL at the start. -/
  | powerOn (level : Nat)
  /-- HOST_FRAME_END (R183): `byte` is the last CRC byte. -/
  | hostFrameEnd (byte : Byte) (stopError : Bool)
  /-- HOST_BAD_LENGTH (R183): `byte` is the LEN byte. -/
  | hostBadLength (byte : Byte) (stopError : Bool)
  /-- HOST_FRAME_TIMEOUT (R183). -/
  | hostFrameTimeout
  /-- REPLY_SENT (R184). -/
  | replySent
  /-- REQUEST_UNKNOWN_KIND (R185). -/
  | requestUnknownKind (kind : Nat)
  /-- SETTINGS_STORE (R188). -/
  | settingsStore (body : Body Unit)
  /-- MODE_SETUP (R186). -/
  | modeSetup (body : Body Unit)
  /-- MODE_RUN (R187). -/
  | modeRun (body : Body Unit)
  /-- RESTART (R193): `level` is the voltage on LEVEL at the start. -/
  | restart (body : Body Unit) (level : Nat)
  /-- UNIT_RESTART_FIELD (R36). -/
  | unitRestartField (body : Body UnitRef)
  /-- UNIT_RESTART_FLEET (R75). -/
  | unitRestartFleet (body : Body UnitRef)
  /-- UNIT_RESTART_PLANNER (R101). -/
  | unitRestartPlanner (body : Body UnitRef)
  /-- UNIT_RESTART_WATER (R127): `level` is the voltage on LEVEL. -/
  | unitRestartWater (body : Body UnitRef) (level : Nat)
  /-- UNIT_RESTART_SHOW (R149). -/
  | unitRestartShow (body : Body UnitRef)
  /-- UNIT_RESTART_LIGHTS (R165). -/
  | unitRestartLights (body : Body UnitRef)
  /-- TIME_SET (R190). -/
  | timeSet (body : Body TimeSet)
  /-- STATUS_GET (R194): the body is the page. -/
  | statusGet (body : Body Nat)
  /-- REPORTS_FETCH (R192). -/
  | reportsFetch (body : Body Unit)
  /-- REPORT_MASK_SET (R192). -/
  | reportMaskSet (body : Body Word32)
  /-- MAP_FILL (R15). -/
  | mapFill (body : Body MapFill)
  /-- ZONE_SET (R16). -/
  | zoneSet (body : Body ZoneSet)
  /-- ZONE_GET (R3). -/
  | zoneGet (body : Body PagedGet)
  /-- CELLS_GET (R1). -/
  | cellsGet (body : Body CellsGet)
  /-- ZONE_WITHDRAW (R5): the body is the zone. -/
  | zoneWithdraw (body : Body Nat)
  /-- ZONE_RESTORE (R5): the body is the zone. -/
  | zoneRestore (body : Body Nat)
  /-- SOURCE_SET (R24). -/
  | sourceSet (body : Body SourceSet)
  /-- SOURCE_REMOVE (R25): the body is the source. -/
  | sourceRemove (body : Body Nat)
  /-- SOURCE_GET (R25): the body is the source. -/
  | sourceGet (body : Body Nat)
  /-- COUNTERS_CAPTURE (R31). -/
  | countersCapture (body : Body Unit)
  /-- CALIBRATE_STAKE (R45). -/
  | calibrateStake (body : Body CalibrateStake)
  /-- CALIBRATE_SOLVE (R49, R50). -/
  | calibrateSolve (body : Body Unit)
  /-- CALIBRATION_GET (R44). -/
  | calibrationGet (body : Body Unit)
  /-- FLEET_SET (R52). -/
  | fleetSet (body : Body FleetSet)
  /-- MOWER_GET (R53). -/
  | mowerGet (body : Body PagedGet)
  /-- MOWER_HOLD (R70): the body is the slot. -/
  | mowerHold (body : Body Nat)
  /-- MOWER_RELEASE (R70): the body is the slot. -/
  | mowerRelease (body : Body Nat)
  /-- MOWER_RECALL (R71): the body is the slot. -/
  | mowerRecall (body : Body Nat)
  /-- MOWER_CLEAR_FAULT (R73): the body is the slot. -/
  | mowerClearFault (body : Body Nat)
  /-- MOWER_DISPATCH (R72): the body is the slot. -/
  | mowerDispatch (body : Body Nat)
  /-- PLAN_SET (R98). -/
  | planSet (body : Body PlanSet)
  /-- MOWING_ENABLE (R98). -/
  | mowingEnable (body : Body Bool)
  /-- WATER_LEVELS_SET (R103). -/
  | waterLevelsSet (body : Body WaterLevelsSet)
  /-- TOPUP_SET (R105). -/
  | topupSet (body : Body TopupSet)
  /-- FILTER_SET (R111). -/
  | filterSet (body : Body FilterSet)
  /-- PUMP_CURVE_SET (R112). -/
  | pumpCurveSet (body : Body PumpCurveSet)
  /-- FILTER_START (R108). -/
  | filterStart (body : Body Unit)
  /-- FILTER_STOP (R108). -/
  | filterStop (body : Body Unit)
  /-- FILTER_BACKWASH (R121). -/
  | filterBackwash (body : Body Unit)
  /-- FILTER_CLEAR_FAULT (R123). -/
  | filterClearFault (body : Body Unit)
  /-- WATER_GET (R125): the body is the page. -/
  | waterGet (body : Body Nat)
  /-- SHOW_SET (R146). -/
  | showSet (body : Body ShowSet)
  /-- SHOW_APPEND (R129). -/
  | showAppend (body : Body (List ShowStep))
  /-- SHOW_START (R140). -/
  | showStart (body : Body Unit)
  /-- SHOW_PAUSE (R140). -/
  | showPause (body : Body Unit)
  /-- SHOW_RESUME (R140). -/
  | showResume (body : Body Unit)
  /-- SHOW_RESET (R141). -/
  | showReset (body : Body Unit)
  /-- SHOW_GET (R147): the body is the page. -/
  | showGet (body : Body Nat)
  /-- LIGHT_SET (R152). -/
  | lightSet (body : Body LightSet)
  /-- LIGHT_SCHEDULE_SET (R153). -/
  | lightScheduleSet (body : Body LightScheduleSet)
  /-- MOTION_MAP_SET (R154). -/
  | motionMapSet (body : Body MotionMapSet)
  /-- LIGHT_MANUAL (R157). -/
  | lightManual (body : Body LightManual)
  /-- LIGHT_CLEAR_FAULT (R162): the body is the circuit. -/
  | lightClearFault (body : Body Nat)
  /-- LIGHT_GET (R163). -/
  | lightGet (body : Body PagedGet)
  /-- SUPPLY_SET (R166). -/
  | supplySet (body : Body SupplySet)
  /-- CHANNEL_SET (R172). -/
  | channelSet (body : Body ChannelSet)
  /-- CHANNEL_RESET (R177): the body is the channel. -/
  | channelReset (body : Body Nat)
  /-- POWER_GET (R179): the body is the page. -/
  | powerGet (body : Body Nat)
  /-- CHANNEL_GET (R179): the body is the channel. -/
  | channelGet (body : Body Nat)
  /-- FIELD_FRAME_END (R21). -/
  | fieldFrameEnd (line : Line)
  /-- ORDER_AIR_TIME_END (R34). -/
  | orderAirTimeEnd
  /-- BLOCK_LIST_EXPIRY (R7). -/
  | blockListExpiry
  /-- WET_MARK_EXPIRY (R10). -/
  | wetMarkExpiry (zone : ZoneId) (mark : Mark)
  /-- CAPTURE_DEADLINE (R47). -/
  | captureDeadline
  /-- HEARTBEAT_EXPIRY (R62). -/
  | heartbeatExpiry (slot : Slot)
  /-- ARRIVAL_EXPIRY (R85). -/
  | arrivalExpiry (slot : Slot)
  /-- YIELD_EXPIRY (R91). -/
  | yieldExpiry (slot : Slot)
  /-- PASS_TIMER (R80). -/
  | passTimer
  /-- DRY_WAIT_EXPIRY (R96). -/
  | dryWaitExpiry
  /-- RAIN_SILENT (R96). -/
  | rainSilent
  /-- CLOCK_SECOND (R190). -/
  | clockSecond
  /-- TOPUP_CAP_PERIOD_END (R105). -/
  | topupCapPeriodEnd
  /-- LEVEL_SAMPLE (R102): `level` is the voltage on LEVEL. -/
  | levelSample (level : Nat)
  /-- TOPUP_CAP_REACHED (R104). -/
  | topupCapReached
  /-- SETTLE_EXPIRY (R114). -/
  | settleExpiry
  /-- GATE_CLOSE (R109): `pre` and `post` are the voltages on PPRE and PPOST. -/
  | gateClose (pre post : Nat)
  /-- MONITOR_INTERVAL_END (R117). -/
  | monitorIntervalEnd
  /-- BACKWASH_EXPIRY (R122). -/
  | backwashExpiry
  /-- STORE_WRITE_END (R188). -/
  | storeWriteEnd (readBackMatches : Bool)
  /-- SHOW_TICK (R131). -/
  | showTick
  /-- WAIT_END (R131). -/
  | waitEnd
  /-- WIND_SILENT (R142). -/
  | windSilent
  /-- DUSK_DWELL_EXPIRY (R151). -/
  | duskDwellExpiry
  /-- DUSK_SILENT (R151). -/
  | duskSilent
  /-- MOTION_HOLD_EXPIRY (R154). -/
  | motionHoldExpiry (circuit : Circuit)
  /-- ESCORT_HOLD_EXPIRY (R156). -/
  | escortHoldExpiry (slot : Slot) (circuit : Circuit)
  /-- CURRENT_SAMPLE (R175): `volts` are the voltages on SNS1 to SNS24. -/
  | currentSample (volts : Vector Nat 24)
  /-- LAMP_OPEN_FAULT (R160). -/
  | lampOpenFault (circuit : Circuit)
  /-- SUPPLY_SAMPLE (R167): `volts` is the voltage on SUPMON. -/
  | supplySample (volts : Nat)
  /-- POWER_DERATED (R167). -/
  | powerDerated
  /-- POWER_RESTORED (R168). -/
  | powerRestored
  /-- SWITCH_HOLD_EXPIRY (R174). -/
  | switchHoldExpiry (channel : ChannelId)
  /-- HOST_BYTE_RECEIVED (R183). -/
  | hostByteReceived (byte : Byte) (stopError : Bool)
  /-- FIELD_BYTE_RECEIVED (R18). -/
  | fieldByteReceived (line : Line) (byte : Byte) (stopError : Bool)
  /-- FLOW_PULSE (R109). -/
  | flowPulse
  deriving DecidableEq, Repr

end Sys2Proof
end

