-- ==== Sys2Proof/Decode.lean ====
section
/-! DEFINITION. The reading of table words. The MG-7 is a block: no row of spec/opcode_table.json gives a
bit pattern, since the host's requests are frames and every other row is an event. -/

namespace Sys2Proof

/-- The command that a word spells by the table's bits: none, for no row of the table gives bits. -/
def decodeTableWord (_nbits _w : Nat) : Option Instr := none

end Sys2Proof
end

