-- ==== Sys2Proof/Config.lean ====
section
/-! DEFINITION. The values the manual leaves open, as constants without a body: nothing in Lean can
evaluate one of them or prove a value of it (assumption log 3 and 4). -/

namespace Sys2Proof

/-- How the part reads a true/false byte or a presence byte that is neither 0 nor 1.
R195 codes true and present as 1, false and absent as 0, and says nothing of the other 254 values
(assumption log 3). DESIGN CHOICE, free value. -/
opaque Config.oddFlag : Byte → Bool

/-- The current, in mA, that a LIGHT_FAULT report carries for a circuit that no output channel carries.
R162 posts the report and R160 gives it "the current", but PW senses the current of channels only
(assumption log 4). The range is that of R172. DESIGN CHOICE, free value; the argument is the number of
free values drawn before. -/
opaque Config.unsensedCurrent : Nat → Fin 30001

end Sys2Proof
end

