-- ==== Sys2Proof/Machine/State.lean ====
section
/-! DEFINITION. The whole state of the MG-7 as plain data, its faults and refusals, and `State.reset`.

The state is nested in three layers, by which blocks can reach one another inside one step:
`Bench` holds what an allocation of watts can change (the map, the fleet, the pond, the show, the
lights, the power unit, the report queue and the clocks); `Garden` adds the field lines, the position
unit, the planner and the access mode; `State` adds the host link, the settings store and the queue of
waiting commands. A function on an inner layer leaves the outer fields alone by its type. -/

namespace Sys2Proof.Machine

/-! ### Containers -/

/-- One value for each mower slot. -/
structure BySlot (α : Type) where
  s0 : α
  s1 : α
  s2 : α
  deriving DecidableEq, Repr

/-- One value for each receive line. -/
structure ByLine (α : Type) where
  a : α
  b : α
  deriving DecidableEq, Repr

/-- One value for each calibration stake. -/
structure ByStake (α : Type) where
  k1 : α
  k2 : α
  k3 : α
  deriving DecidableEq, Repr

/-! ### Time (R10, R190) -/

/-- The running time since power-on: its whole seconds (the running second count, R10) and the
milliseconds within the present second, 0–999. -/
structure Time where
  secs : Nat
  ms : Nat
  deriving DecidableEq, Repr

/-- The garden clock when it is set (R190). -/
structure GardenClock where
  day : Nat
  second : Nat
  deriving DecidableEq, Repr

/-- The two access modes (R186, R187). -/
inductive Mode | setup | run
  deriving DecidableEq, Repr

/-! ### Garden Map (R1–R17) -/

/-- The address of a cell (R1). -/
structure CellAddr where
  col : Fin 96
  row : Fin 64
  deriving DecidableEq, Repr

/-- A cell record (R1). -/
structure Cell where
  zone : Option ZoneId
  claim : Option Slot
  blocked : Bool
  lastMown : Option Nat
  deriving DecidableEq, Repr

/-- What a cell that the grid does not list holds: zone 0, unclaimed, not blocked, never mown (R17). -/
def Cell.blank : Cell := ⟨none, none, false, none⟩

/-- The 6,144 cell records in one canonical form: (row × 96 + column, record) pairs, keys strictly
rising, no record equal to `Cell.blank`. -/
abbrev Grid := List (Nat × Cell)

/-- The state of one wet mark of a zone (R10). -/
inductive MarkState | absent | held | drying (expiry : Nat)
  deriving DecidableEq, Repr

/-- The configured fields of a zone (R2). -/
structure ZoneCfg where
  kind : ZoneKind
  interval : Nat
  cutHeight : Nat
  circuit : Option Circuit
  splash : Option Nozzle
  discharge : Bool
  escort : Nat
  withdrawn : Bool
  deriving DecidableEq, Repr

/-- A zone record (R2, R3). -/
structure Zone where
  cfg : ZoneCfg
  splashMarks : ByNozzle MarkState
  dischargeMark : MarkState
  roundStart : Option Nat
  assigned : Option Slot
  deriving DecidableEq, Repr

/-- An entry of the block list (R6): a cell and the running time in ms at which it expires. -/
structure BlockEntry where
  cell : CellAddr
  expiry : Nat
  deriving DecidableEq, Repr

/-- The Garden Map. The block list stands in order of expiry, at most 64 entries (R6). -/
structure MapUnit where
  grid : Grid
  zones : Vector Zone 48
  blockList : List BlockEntry
  deriving DecidableEq, Repr

/-! ### Field Lines (R18–R36) -/

/-- The receiver of one field line (R18). -/
structure FieldRx where
  gathering : Bool
  count : Nat
  kept : List Byte
  damaged : Bool
  deriving DecidableEq, Repr

/-- A source's duplicate window (R26). -/
structure Window where
  newest : Option Nat
  accepted : List Nat
  fresh : Option Nat
  deriving DecidableEq, Repr

/-- The configured fields of a source table entry (R23). -/
structure SourceCfg where
  kind : SourceKind
  binding : Binding
  deriving DecidableEq, Repr

/-- A source table entry (R23). -/
structure Source where
  cfg : SourceCfg
  lastHeard : Option Nat
  window : Window
  deriving DecidableEq, Repr

/-- The nine counters of one receive line (R30). -/
structure LineCounters where
  received : Nat
  runt : Nat
  oversize : Nat
  badCrc : Nat
  unknownSource : Nat
  wrongLine : Nat
  duplicate : Nat
  stale : Nat
  good : Nat
  deriving DecidableEq, Repr

/-- The 22 field counters (R30). -/
structure FieldCounters where
  lineA : LineCounters
  lineB : LineCounters
  sentUrgent : Nat
  sentNormal : Nat
  droppedUrgent : Nat
  droppedNormal : Nat
  deriving DecidableEq, Repr

/-- The lane fields that GO_LANE carries (R32): start, end and cut height. -/
structure LaneFields where
  startX : Nat
  startY : Nat
  endX : Nat
  endY : Nat
  cutHeight : Nat
  deriving DecidableEq, Repr

/-- What an order asks of a mower (R32, R64). -/
inductive OrderKind | goLane (f : LaneFields) | hold | resume | returnHome | stop
  deriving DecidableEq, Repr

/-- An order in the transmit queue (R32). -/
structure Order where
  dest : SourceId
  kind : OrderKind
  number : Nat
  deriving DecidableEq, Repr

/-- The order in flight: the order, the link sequence written into it and the running time in ms at
which its air time ends (R32, R34). -/
structure Flight where
  order : Order
  linkSeq : Nat
  ends : Nat
  deriving DecidableEq, Repr

/-- The transmit queue and transmitter (R33, R34): the transmitter is sending while `inFlight` holds an
order; the waiting orders stand oldest first in their class. -/
structure Transmit where
  inFlight : Option Flight
  urgent : List Order
  normal : List Order
  linkSeq : Nat
  deriving DecidableEq, Repr

/-- Field Lines. `captureFrom` is the running second from which the next capture span counts (R31). -/
structure FieldUnit where
  rx : ByLine FieldRx
  sources : Vector (Option Source) 40
  live : FieldCounters
  capture : FieldCounters
  captureFrom : Nat
  tx : Transmit
  deriving DecidableEq, Repr

/-! ### Position Unit (R37–R51) -/

/-- The six transform coefficients (R37). -/
structure Coeffs where
  a : Int
  b : Int
  c : Int
  d : Int
  e : Int
  f : Int
  deriving DecidableEq, Repr

/-- A track record (R39). -/
structure Track where
  sequence : Option Nat
  raw : Option (Int × Int)
  garden : Option (Int × Int)
  lookup : Option (Nat × Nat)
  cell : Option CellAddr
  zone : Option ZoneId
  edge : Bool
  offMap : Bool
  tracker : Nat
  time : Option Nat
  deriving DecidableEq, Repr

/-- A stake record (R44). The garden and raw positions are meaningful as R44 says. -/
structure StakeRec where
  isSet : Bool
  gardenX : Nat
  gardenY : Nat
  rawX : Int
  rawY : Int
  deriving DecidableEq, Repr

/-- The capture record while CAPTURING (R44); IDLE is `none`. The deadline is a running second count. -/
structure Capture where
  stake : Stake
  slot : Slot
  count : Nat
  sumX : Int
  sumY : Int
  deadline : Nat
  deriving DecidableEq, Repr

/-- The Position Unit. -/
structure PositionUnit where
  coeffs : Coeffs
  tracks : BySlot Track
  stakes : ByStake StakeRec
  capture : Option Capture
  deriving DecidableEq, Repr

/-! ### Fleet Unit (R52–R76) -/

/-- A slot's fleet configuration (R52); an unbound slot has source `none`. -/
structure FleetCfg where
  source : Option SourceId
  ratedWatts : Nat
  timeout : Nat
  dispatchLevel : Nat
  homeboundLevel : Nat
  deriving DecidableEq, Repr

/-- Why a mower is PAUSED (R54). -/
inductive PauseCause | hold | yield | wet | blocked | recovered
  deriving DecidableEq, Repr

/-- Why a mower is HOMEBOUND (R54). -/
inductive HomeCause | battery | rain | quiet | laneDoneNoWork | recall | setup
  deriving DecidableEq, Repr

/-- Why a mower is FAULTED (R54). -/
inductive MowerFaultCause | mowerFault | noEcho | lifted
  deriving DecidableEq, Repr

/-- The nine states of a mower, with their causes (R54). -/
inductive MowerState
  | absent | docked | charging | outbound | mowing
  | paused (c : PauseCause) | homebound (c : HomeCause) | lost | faulted (c : MowerFaultCause)
  deriving DecidableEq, Repr

/-- The outstanding order of a mower (R53). -/
structure Outstanding where
  number : Nat
  kind : OrderKind
  resends : Nat
  deriving DecidableEq, Repr

/-- A mower context (R53), less the assigned zone and the lane, which stand in GM's and MP's records.
Deadline and last heard are running times in ms. -/
structure MowerCtx where
  state : MowerState
  battery : Option Nat
  lastDocked : Bool
  lastLifted : Bool
  departed : Bool
  lastEcho : Nat
  nextOrder : Nat
  outstanding : Option Outstanding
  deadline : Option Nat
  lastHeard : Option Nat
  faultCode : Option Nat
  deriving DecidableEq, Repr

/-- One mower slot: configuration, context and the level of its charger function (R69). Its charger
ask and grant stand in PW's load table (R169). -/
structure FleetSlot where
  cfg : FleetCfg
  ctx : MowerCtx
  chargerLevel : Nat
  deriving DecidableEq, Repr

/-! ### Mowing Planner (R77–R101) -/

/-- The planner's stored settings (R98): obstacle hold, dry-wait and quiet hours in minutes, yield time
in seconds. -/
structure PlanCfg where
  enabled : Bool
  obstacleHold : Nat
  yieldTime : Nat
  dryWait : Nat
  quietStart : Nat
  quietEnd : Nat
  deriving DecidableEq, Repr

/-- The direction of a lane (R83). -/
inductive Direction | increasing | decreasing
  deriving DecidableEq, Repr

/-- A lane record (R83). `window` is how many cells, from the current index on, the slot holds claims on.
The arrival expiry is a running time in ms. -/
structure Lane where
  zone : ZoneId
  row : Fin 64
  direction : Direction
  cells : List CellAddr
  current : Nat
  window : Nat
  startX : Nat
  startY : Nat
  endX : Nat
  endY : Nat
  arrival : Option Nat
  deriving DecidableEq, Repr

/-- A yield record (R83, R90): the refused cell and the expiry in ms of running time. -/
structure Yield where
  cell : CellAddr
  expiry : Nat
  deriving DecidableEq, Repr

/-- The rain state (R96). -/
inductive RainState | dry | wet | waiting
  deriving DecidableEq, Repr

/-- A due-queue entry (R77). -/
structure DueEntry where
  zone : ZoneId
  due : Nat
  deriving DecidableEq, Repr

/-- The Mowing Planner. `quiet` is the quiet state last judged (R97); `rainSilent` is the rain silence flag and
`rainOnset` says that the onset of the present silence has been taken (R96; assumption log 26);
`dryWaitExpiry` and `passTimer` are running times in ms. -/
structure Planner where
  cfg : PlanCfg
  due : List DueEntry
  lastRound : Vector (Option Nat) 48
  lanes : BySlot (Option Lane)
  yields : BySlot (Option Yield)
  setAside : BySlot (List CellAddr)
  rain : RainState
  dryWaitExpiry : Option Nat
  rainSilent : Bool
  rainOnset : Bool
  quiet : Bool
  passTimer : Nat
  deriving DecidableEq, Repr

/-! ### Water Unit (R102–R127) -/

/-- The four level thresholds in mm (R103). -/
structure Levels where
  filterLow : Nat
  fountainLow : Nat
  fillOn : Nat
  fillOff : Nat
  deriving DecidableEq, Repr

/-- The filter settings (R111). -/
structure FilterCfg where
  k100 : Nat
  qMin : Nat
  dpMax : Nat
  dpClog : Nat
  merit : MeritType
  settleTime : Nat
  lookBeyond : Nat
  monitorInterval : Nat
  confirmCount : Nat
  backwashTime : Nat
  backwashSpacing : Nat
  drainTime : Nat
  deriving DecidableEq, Repr

/-- WU's stored settings (R103, R105, R111, R112); `curve` holds the watts of steps 1–16. -/
structure WaterCfg where
  levels : Levels
  capMinutes : Nat
  topupWatts : Nat
  filter : FilterCfg
  curve : Vector Nat 16
  minStep : Nat
  fullWatts : Nat
  deriving DecidableEq, Repr

/-- The top-up valve's states (R104). -/
inductive TopupState | closed | opened | waitPower | capped | tripped
  deriving DecidableEq, Repr

/-- The cause of a filter fault (R106). -/
inductive FilterCause | clogPersists | noFlow | noPower | channelTrip
  deriving DecidableEq, Repr

/-- The six filter states (R106). -/
inductive FilterState | stopped | searching | locked | backwash | starved | fault (c : FilterCause)
  deriving DecidableEq, Repr

/-- The phase of a trial (R113). -/
inductive TrialPhase | raising | settling | gating
  deriving DecidableEq, Repr

/-- The search record (R113). -/
structure Search where
  startStep : Nat
  candidate : Nat
  phase : TrialPhase
  bestStep : Option Nat
  bestFom : Option Int
  look : Nat
  trials : Nat
  expiry : Option Nat
  deriving DecidableEq, Repr

/-- Where a power limit came from (R116, R119). -/
inductive LimitOrigin | search | lock
  deriving DecidableEq, Repr

/-- The limit step of a power-limited lock, with its origin (R116, R119). -/
structure Limit where
  step : Nat
  origin : LimitOrigin
  deriving DecidableEq, Repr

/-- The kind of a failing check (R117). -/
inductive CheckKind | clog | flow
  deriving DecidableEq, Repr

/-- An open gate (R109): pulses so far and the running time in ms at which it closes. -/
structure Gate where
  pulses : Nat
  closes : Nat
  deriving DecidableEq, Repr

/-- A gate result (R109). -/
structure GateResult where
  pulses : Nat
  q : Nat
  pre : Nat
  post : Nat
  dp : Nat
  deriving DecidableEq, Repr

/-- Why a backwash was asked for (R121). -/
inductive BackwashCause | clog | host
  deriving DecidableEq, Repr

/-- The filter pump's runtime state (R106–R122). Expiries are running times in ms; `backwashCause` is the cause
with which the latest backwash was asked for (R121). -/
structure Filter where
  state : FilterState
  step : Nat
  lockedStep : Option Nat
  powerLimited : Bool
  marginal : Bool
  limit : Option Limit
  lockFom : Option Int
  search : Option Search
  failing : Nat
  failKind : Option CheckKind
  monitor : Option Nat
  gate : Option Gate
  zeroFlow : Nat
  lastGate : Option GateResult
  backwashExpiry : Option Nat
  lastBackwashEnd : Option Nat
  backwashCause : Option BackwashCause
  deriving DecidableEq, Repr

/-- The causes for which the fountain supply is withheld (R124). -/
structure SupplyCauses where
  lowLevel : Bool
  backwash : Bool
  trip : Bool
  deriving DecidableEq, Repr

/-- The Water Unit. `capFrom` is the running second from which the present cap period counts while the clock is
UNSET: power-on or the last WATER restart, and every 86,400 s after it whose end has been taken (R105). -/
structure WaterUnit where
  cfg : WaterCfg
  level : Nat
  starved : Bool
  supplyLow : Bool
  demand : Bool
  topup : TopupState
  capCount : Nat
  capFrom : Nat
  filter : Filter
  causes : SupplyCauses
  deriving DecidableEq, Repr

/-! ### Show Engine (R128–R149) -/

/-- SE's stored settings (R146); dry-off times in minutes. -/
structure ShowCfg where
  calm : Nat
  cutoff : Nat
  threshold : ByNozzle Nat
  dryOff : ByNozzle Nat
  deriving DecidableEq, Repr

/-- The four states of the engine (7.6). -/
inductive EngineState | idle | running | paused | faulted
  deriving DecidableEq, Repr

/-- A running ramp (R132): the value it began from, its tick count N and the ticks k done. -/
structure Ramp where
  start : Nat
  ticks : Nat
  done : Nat
  deriving DecidableEq, Repr

/-- A value with its target and ramp: a nozzle's commanded height or an owned circuit's show level
(R133). -/
structure Ramped where
  value : Nat
  target : Nat
  ramp : Option Ramp
  deriving DecidableEq, Repr

/-- An owned circuit with its show level (R133). -/
structure Owned where
  circuit : Circuit
  level : Ramped
  deriving DecidableEq, Repr

/-- The show context (R133); the owned circuits stand in ascending order. -/
structure ShowContext where
  nozzles : ByNozzle Ramped
  owned : List Owned
  defaultRamp : Nat
  deriving DecidableEq, Repr

/-- The position inside a scene (R134–R136). Offsets count ring positions from the scene's SCENE step,
which stands at the head. -/
structure Scene where
  next : Nat
  wait : Option Nat
  mark : Option Nat
  loop : Option Nat
  deriving DecidableEq, Repr

/-- The heights of one nozzle in the chain (R143–R145). -/
structure Heights where
  h1 : Nat
  h2 : Nat
  h3 : Nat
  e : Nat
  deriving DecidableEq, Repr

/-- The causes of a show fault (R139). -/
inductive ShowFaultCause | stackOver | stackUnder | sceneTooLong | badStep | repeatWithoutMark | runaway
  deriving DecidableEq, Repr

/-- The Show Engine. `windSilent` says that the wind is silent and the onset taken (R142; assumption log 26).
`steps` are the steps not yet freed, oldest first, the oldest at ring position `head` (R128). The fountain ask
stands in PW's load table (R144). -/
structure ShowUnit where
  cfg : ShowCfg
  engine : EngineState
  head : Nat
  steps : List ShowStep
  scene : Option Scene
  ctx : ShowContext
  stack : List ShowContext
  held : ByNozzle Bool
  wind : Option Nat
  windFactor : Nat
  windSilent : Bool
  heights : ByNozzle Heights
  dry : Bool
  deriving DecidableEq, Repr

/-! ### Light Unit (R150–R165) -/

/-- The dusk states (R150). -/
inductive DuskState | day | dusk | night
  deriving DecidableEq, Repr

/-- A pending dusk state and its dwell expiry in ms of running time (R150). -/
structure PendingDusk where
  state : DuskState
  expiry : Nat
  deriving DecidableEq, Repr

/-- A circuit's configured fields (R152). -/
structure CircuitCfg where
  inUse : Bool
  ratedWatts : Nat
  frequency : Nat
  fadeRate : Nat
  duskLevel : Nat
  nightLevel : Nat
  lateLevel : Nat
  motionLevel : Nat
  openThreshold : Nat
  shortLimit : Nat
  deriving DecidableEq, Repr

/-- Why a circuit is FAULT_SHORT (R161). -/
inductive ShortCause | short | trip
  deriving DecidableEq, Repr

/-- The states of a circuit, with the cause in FAULT_SHORT (R152). -/
inductive LampState | off | lit | faultOpen | faultShort (c : ShortCause)
  deriving DecidableEq, Repr

/-- The held part of an escort contribution (R155): level and hold expiry in ms of running time. -/
structure HeldEscort where
  level : Nat
  expiry : Nat
  deriving DecidableEq, Repr

/-- A slot's escort contribution to a circuit (R155). -/
structure Contribution where
  present : Option Nat
  held : Option HeldEscort
  deriving DecidableEq, Repr

/-- A circuit record (R152). Target and cap are computed from the requests and the grants (R158, R159);
the asks and grants stand in PW's load table (R169). The motion hold expiry is in ms of running time. -/
structure LampCircuit where
  cfg : CircuitCfg
  schedule : Nat
  motion : Nat
  manual : Option Nat
  shows : Option Nat
  escorts : BySlot Contribution
  motionExpiry : Option Nat
  output : Nat
  state : LampState
  openCount : Nat
  deriving DecidableEq, Repr

/-- An entry of the motion map (R154). -/
structure MotionEntry where
  source : Option SourceId
  circuits : List Circuit
  deriving DecidableEq, Repr

/-- The Light Unit; the late time is a minute of the day, the motion hold in seconds. `silent` is the dusk
silence flag and `onset` says that the onset of the present silence has been taken (R151; assumption log 26). -/
structure LightUnit where
  lateTime : Nat
  motionHold : Nat
  motionMap : Vector MotionEntry 8
  circuits : Vector LampCircuit 12
  dusk : DuskState
  pendingDusk : Option PendingDusk
  lux : Option Nat
  silent : Bool
  onset : Bool
  deriving DecidableEq, Repr

/-! ### Power Unit (R166–R181) -/

/-- The supply settings (R166). -/
structure SupplyCfg where
  capacity : Nat
  reserve : Nat
  fullScale : Nat
  deriving DecidableEq, Repr

/-- The index of a load, 0–17 (R169). -/
abbrev LoadId := Fin 18

/-- A load's asks and grants (R169). `askA` and `grantA` are in the load's first class, `askB` and
`grantB` in its second. `asked` says that the owner posted an ask PW has not yet answered (R171). -/
structure Load where
  askA : Nat
  askB : Nat
  grantA : Nat
  grantB : Nat
  asked : Bool
  deriving DecidableEq, Repr

/-- What the latest allocation did in one class (R179). -/
structure ClassTotals where
  asked : Nat
  granted : Nat
  remaining : Nat
  deriving DecidableEq, Repr

/-- The latest allocation, class by class in the order of R169. -/
structure Totals where
  filterBase : ClassTotals
  safety : ClassTotals
  filterExtra : ClassTotals
  charge : ClassTotals
  fountain : ClassTotals
  ambient : ClassTotals
  deriving DecidableEq, Repr

/-- The configured fields of an output channel (R172). -/
structure ChannelCfg where
  type : ChannelType
  function : Option Fn
  interval : Nat
  tripCurrent : Nat
  deriving DecidableEq, Repr

/-- The states of an output channel (R172). -/
inductive ChannelState | idle | driving | tripped
  deriving DecidableEq, Repr

/-- A channel record (R172). Last switch and hold expiry are running times in ms; `frequency` is the
PWM frequency in Hz that a PWM drive runs at (R173). -/
structure Channel where
  cfg : ChannelCfg
  state : ChannelState
  requested : Nat
  applied : Nat
  lastSwitch : Option Nat
  holdExpiry : Option Nat
  current : Nat
  frequency : Nat
  deriving DecidableEq, Repr

/-- The Power Unit. `realloc` says that an event of R171 asks for an allocation in this step. -/
structure PowerUnit where
  cfg : SupplyCfg
  ceff : Nat
  draw : Nat
  overdraw : Nat
  restore : Nat
  loads : Vector Load 18
  totals : Totals
  channels : Vector Channel 24
  realloc : Bool
  deriving DecidableEq, Repr

/-! ### Reports (R191, R195) -/

/-- The failing item of a MODE_RUN check (R178, R187). -/
inductive FailItem
  | unbound (f : Fn)
  | wrongType (f : Fn) (ch : ChannelId) (t : ChannelType)
  | fleetSource (k : Slot) (source : SourceId)
  deriving DecidableEq, Repr

/-- The cause of a failed calibration capture (R48). -/
inductive CaptureFailure | timeout | fieldRestart | slotChanged
  deriving DecidableEq, Repr

/-- A report's kind and body (R195, report kinds 1 to 23). -/
inductive ReportBody
  | started (generation : Nat) (item : Option FailItem)
  | settingsLost
  | settingsStored (generation : Nat)
  | settingsStoreFailed (generation : Nat)
  | mowerState (slot : Slot) (state : MowerState) (faultCode : Option Nat) (battery : Option Nat)
  | zoneRoundDone (zone : ZoneId) (day cells skipped : Nat)
  | rainState (state : RainState)
  | rainSilent
  | stakeCaptured (stake : Stake) (gardenX gardenY : Nat) (rawX rawY : Int)
  | calibrationFailed (stake : Stake) (cause : CaptureFailure)
  | filterState (state : FilterState) (step : Nat) (powerLimited marginal : Bool) (lockFom : Option Int)
  | filterMarginal (step : Nat) (fom : Int)
  | topupCapped (count cap : Nat)
  | fountainSupply (causes : SupplyCauses)
  | showEnded
  | showFault (cause : ShowFaultCause) (position : Nat)
  | showDry (dry : Bool)
  | duskState (state : DuskState) (lux : Nat)
  | duskSilent
  | lightFault (circuit : Circuit) (state : LampState) (current : Nat)
  | powerDerated (ceff available draw : Nat)
  | powerRestored (ceff available : Nat)
  | channelTrip (channel : ChannelId) (function : Option Fn) (current : Nat)
  deriving DecidableEq, Repr

/-- A report's time stamp (R191): the garden day and second, or the running second count. -/
inductive Stamp | clock (day second : Nat) | running (secs : Nat)
  deriving DecidableEq, Repr

/-- A queued report (R191). -/
structure Report where
  stamp : Stamp
  body : ReportBody
  deriving DecidableEq, Repr

/-- The report queue, oldest first, at most 32 entries, the lost-report count and the report mask, bit k
enabling kind k (R191, R192). ATTN is low while the queue holds a report. -/
structure Reports where
  queue : List Report
  lost : Nat
  mask : Word32
  deriving DecidableEq, Repr

/-! ### Host Link (R182–R195) -/

/-- The states of the HL receiver (R183). -/
inductive RxState | hunting | length | gathering
  deriving DecidableEq, Repr

/-- The HL receiver: in GATHERING, the LEN received and the bytes taken after it (R183). -/
structure HostRx where
  state : RxState
  len : Nat
  taken : List Byte
  damaged : Bool
  deriving DecidableEq, Repr

/-- The five link counters (R183). -/
structure LinkCounters where
  good : Nat
  badLength : Nat
  badCrc : Nat
  truncated : Nat
  queueFull : Nat
  deriving DecidableEq, Repr

/-- A request in the request queue (R184). -/
structure QueuedRequest where
  kind : Byte
  tag : Byte
  body : List Byte
  deriving DecidableEq, Repr

/-- The reasons of a refusal (R195). -/
inductive Reason
  | unknownKind | badBody | noSuch | wrongMode | busy | full | inconsistent | degenerate | overflow | faulted
  deriving DecidableEq, Repr

/-- What a reply says of its request (R185). -/
inductive Verdict | accepted | refused (r : Reason)
  deriving DecidableEq, Repr

/-- A reply: the TAG it copies (absent for a request that did not come over the link, assumption log 2),
the verdict, and the fields of its body after the verdict's own byte, each as its bytes (R182, R195). -/
structure Reply where
  tag : Option Byte
  verdict : Verdict
  fields : List (List Byte)
  deriving DecidableEq, Repr

/-- The link: the receiver, the counters, the request queue (its head is in service), whether the
request in service has been decided and its reply is being sent, and the latest reply (R183, R184). -/
structure Link where
  rx : HostRx
  counters : LinkCounters
  queue : List QueuedRequest
  answered : Bool
  reply : Option Reply
  deriving DecidableEq, Repr

/-! ### Settings store (R188, R189) -/

/-- The stored configuration (10.3): what every chapter names as stored. -/
structure Settings where
  cellZones : List (Nat × ZoneId)
  zones : Vector ZoneCfg 48
  sources : Vector (Option SourceCfg) 40
  coeffs : Coeffs
  fleet : BySlot FleetCfg
  plan : PlanCfg
  water : WaterCfg
  shows : ShowCfg
  lateTime : Nat
  motionHold : Nat
  motionMap : Vector MotionEntry 8
  circuits : Vector CircuitCfg 12
  supply : SupplyCfg
  channels : Vector ChannelCfg 24
  deriving DecidableEq, Repr

/-- A valid store copy: its generation and the configuration (10.3). -/
structure StoreCopy where
  generation : Nat
  settings : Settings
  deriving DecidableEq, Repr

/-- Which of the two store copies. -/
inductive CopyId | one | two
  deriving DecidableEq, Repr

/-- A write under way (R188): its generation, the copy it goes to, the snapshot, and the running time in ms
at which it began. -/
structure StoreWrite where
  generation : Nat
  target : CopyId
  snapshot : Settings
  began : Nat
  deriving DecidableEq, Repr

/-- The settings store: two copies, `none` while not valid, and the write under way (WRITING) or none
(IDLE). -/
structure Store where
  one : Option StoreCopy
  two : Option StoreCopy
  writing : Option StoreWrite
  deriving DecidableEq, Repr

/-! ### The machine -/

/-- What an allocation of watts and the owners' reactions to it can change. `freeDrawn` counts the free
values drawn (the model's own field, assumption log 4). -/
structure Bench where
  time : Time
  clock : Option GardenClock
  reports : Reports
  ground : MapUnit
  fleet : BySlot FleetSlot
  water : WaterUnit
  shows : ShowUnit
  lights : LightUnit
  power : PowerUnit
  freeDrawn : Nat
  deriving DecidableEq, Repr

/-- The ten blocks, less the link and the store. -/
structure Garden extends Bench where
  mode : Mode
  field : FieldUnit
  position : PositionUnit
  planner : Planner
  deriving DecidableEq, Repr

/-- The whole machine: the garden blocks, the host link, the settings store, and the commands waiting,
first in, first out. -/
structure State extends Garden where
  link : Link
  store : Store
  pending : List Instr
  deriving DecidableEq, Repr

/-- Reasons for which the machine stops. No command of the MG-7 raises one: every command of the table
has an effect (or is turned away with none), and no rule of the manual stops the part. -/
inductive Fault
  /-- Raised by nothing. It stands so that the type is inhabited; safe. -/
  | unreachable
  deriving DecidableEq, Repr

/-- Reasons for which the model has no answer. -/
inductive Refusal
  /-- Raised by `exec` for a command that has no meaning yet, under its mnemonic; safe. -/
  | notModelled (mnemonic : String)
  deriving DecidableEq, Repr

/-! ### Factory defaults -/

/-- The factory zone record (R2). -/
def ZoneCfg.factory : ZoneCfg := ⟨.keepout, 7, 40, none, none, false, 0, false⟩

/-- The identity transform (3.1). -/
def Coeffs.identity : Coeffs := ⟨65536, 0, 0, 0, 65536, 0⟩

/-- The factory fleet configuration (R52). -/
def FleetCfg.factory : FleetCfg := ⟨none, 120, 6, 80, 25⟩

/-- The factory planner settings (R6, R90, R96, R97, R98). -/
def PlanCfg.factory : PlanCfg := ⟨false, 60, 30, 120, 1260, 480⟩

/-- The factory filter settings (R111). -/
def FilterCfg.factory : FilterCfg := ⟨1200, 400, 300, 350, .both, 30, 2, 60, 3, 120, 6, 15⟩

/-- The factory pump curve (R112). -/
def factoryCurve : Vector Nat 16 :=
  #v[100, 140, 180, 220, 270, 320, 370, 420, 480, 540, 600, 660, 730, 800, 870, 940]

/-- The factory water settings (R103, R105, R111, R112). -/
def WaterCfg.factory : WaterCfg :=
  ⟨⟨400, 500, 600, 650⟩, 30, 30, FilterCfg.factory, factoryCurve, 3, 500⟩

/-- The factory show settings (R146). -/
def ShowCfg.factory : ShowCfg := ⟨30, 100, ⟨600, 600, 600, 600⟩, ⟨10, 10, 10, 10⟩⟩

/-- The factory circuit record (R152). -/
def CircuitCfg.factory : CircuitCfg := ⟨false, 50, 500, 200, 400, 300, 100, 1000, 20, 4000⟩

/-- The factory supply settings (R166). -/
def SupplyCfg.factory : SupplyCfg := ⟨1200, 50, 4000⟩

/-- The factory channel record (R172). -/
def ChannelCfg.factory : ChannelCfg := ⟨.relay, none, 0, 10000⟩

/-- The factory configuration (R189). R154 states no default for the motion map's eight entries: each has no source
and no circuit (DESIGN CHOICE, assumption log 68). -/
def Settings.factory : Settings where
  cellZones := []
  zones := Vector.replicate 48 ZoneCfg.factory
  sources := Vector.replicate 40 none
  coeffs := Coeffs.identity
  fleet := ⟨FleetCfg.factory, FleetCfg.factory, FleetCfg.factory⟩
  plan := PlanCfg.factory
  water := WaterCfg.factory
  shows := ShowCfg.factory
  lateTime := 1380
  motionHold := 90
  motionMap := Vector.replicate 8 ⟨none, []⟩
  circuits := Vector.replicate 12 CircuitCfg.factory
  supply := SupplyCfg.factory
  channels := Vector.replicate 24 ChannelCfg.factory

/-! ### Starting values -/

/-- Every report kind enabled: bits 1 to 23 (R189, R195). -/
def allReports : Word32 := 0x00FFFFFE

/-- A zone with no runtime item (R17). -/
def Zone.fresh (c : ZoneCfg) : Zone := ⟨c, ⟨.absent, .absent, .absent, .absent⟩, .absent, none, none⟩

/-- An idle field receiver (R35). -/
def FieldRx.idle : FieldRx := ⟨false, 0, [], false⟩

/-- The empty duplicate window (R35). -/
def Window.empty : Window := ⟨none, [], none⟩

/-- A source as loaded (R35). -/
def Source.fresh (c : SourceCfg) : Source := ⟨c, none, Window.empty⟩

/-- Field counters at 0 (R35). -/
def FieldCounters.zero : FieldCounters :=
  ⟨⟨0, 0, 0, 0, 0, 0, 0, 0, 0⟩, ⟨0, 0, 0, 0, 0, 0, 0, 0, 0⟩, 0, 0, 0, 0⟩

/-- The empty transmit queue (R35). -/
def Transmit.empty : Transmit := ⟨none, [], [], 0⟩

/-- The empty track record (R39). -/
def Track.empty : Track := ⟨none, none, none, none, none, none, false, false, 0, none⟩

/-- An UNSET stake (R44); its positions are 0 until they are written (assumption log 6). -/
def StakeRec.unset : StakeRec := ⟨false, 0, 0, 0, 0⟩

/-- The mower context after power-on (R74). -/
def MowerCtx.start : MowerCtx := ⟨.absent, none, false, false, false, 0, 1, none, none, none, none⟩

/-- A slot after power-on (R74). -/
def FleetSlot.start (c : FleetCfg) : FleetSlot := ⟨c, MowerCtx.start, 0⟩

/-- The planner after power-on (R100); the pass timer runs from power-on (R80). -/
def Planner.start (c : PlanCfg) : Planner :=
  ⟨c, [], Vector.replicate 48 none, ⟨none, none, none⟩, ⟨none, none, none⟩, ⟨[], [], []⟩, .dry, none,
    false, false, false, 60000⟩

/-- The filter before WU has decided its first state (R126). No check has failed yet, so the kind of the latest
failing check is absent, which R126 does not list (DESIGN CHOICE, assumption log 57). -/
def Filter.start : Filter :=
  ⟨.stopped, 0, none, false, false, none, none, none, 0, none, none, none, 0, none, none, none, none⟩

/-- A value at 0 with no ramp (R133). -/
def Ramped.zero : Ramped := ⟨0, 0, none⟩

/-- The show context's reset values (R133). -/
def ShowContext.start : ShowContext :=
  ⟨⟨Ramped.zero, Ramped.zero, Ramped.zero, Ramped.zero⟩, [], 1000⟩

/-- Heights at 0 (R148). -/
def Heights.zero : Heights := ⟨0, 0, 0, 0⟩

/-- The Show Engine after power-on, with the dry flag that the fountain supply gives (R148). -/
def ShowUnit.start (c : ShowCfg) (dry : Bool) : ShowUnit :=
  ⟨c, .idle, 0, [], none, ShowContext.start, [], ⟨false, false, false, false⟩, none, 1000, false,
    ⟨Heights.zero, Heights.zero, Heights.zero, Heights.zero⟩, dry⟩

/-- No escort contribution (R164). -/
def Contribution.zero : Contribution := ⟨none, none⟩

/-- A circuit after power-on (R164). -/
def LampCircuit.start (c : CircuitCfg) : LampCircuit :=
  ⟨c, 0, 0, none, none, ⟨Contribution.zero, Contribution.zero, Contribution.zero⟩, none, 0, .off, 0⟩

/-- A load with no ask and no grant (R180). -/
def Load.zero : Load := ⟨0, 0, 0, 0, false⟩

/-- Totals before the first allocation. -/
def Totals.zero : Totals :=
  ⟨⟨0, 0, 0⟩, ⟨0, 0, 0⟩, ⟨0, 0, 0⟩, ⟨0, 0, 0⟩, ⟨0, 0, 0⟩, ⟨0, 0, 0⟩⟩

/-- A channel after power-on (R180); its PWM frequency is 1,000 Hz until a LIGHT level comes (R173). -/
def Channel.start (c : ChannelCfg) : Channel := ⟨c, .idle, 0, 0, none, none, 0, 1000⟩

/-- The link after power-on (R189). -/
def Link.start : Link := ⟨⟨.hunting, 0, [], false⟩, ⟨0, 0, 0, 0, 0⟩, [], false, none⟩

/-- The store with neither copy valid. -/
def Store.blank : Store := ⟨none, none, none⟩

/-- The machine right after a power-on with both store copies blank and 0 V on LEVEL (R189 and the start
rules R17, R35, R51, R74, R100, R126, R148, R164, R180; assumption log 1 for the store and the level).
The pond reads 0 mm, so the filter is STARVED, the fountain supply WITHHELD and the top-up valve, granted
its 30 W, OPEN. `test_reset_is_powerOn` shows that `execPowerOn 0` gives this state. -/
def State.reset : State where
  time := ⟨0, 0⟩
  clock := none
  reports := ⟨[⟨.running 0, .settingsLost⟩], 0, allReports⟩
  ground := ⟨[], Vector.replicate 48 (Zone.fresh ZoneCfg.factory), []⟩
  fleet := ⟨FleetSlot.start FleetCfg.factory, FleetSlot.start FleetCfg.factory,
    FleetSlot.start FleetCfg.factory⟩
  water :=
    { cfg := WaterCfg.factory, level := 0, starved := true, supplyLow := true, demand := true,
      topup := .opened, capCount := 0, capFrom := 0,
      filter := { Filter.start with state := .starved },
      causes := ⟨true, false, false⟩ }
  shows := ShowUnit.start ShowCfg.factory true
  lights :=
    ⟨1380, 90, Vector.replicate 8 ⟨none, []⟩, Vector.replicate 12 (LampCircuit.start CircuitCfg.factory),
      .day, none, none, false, false⟩
  power :=
    { cfg := SupplyCfg.factory, ceff := 1200, draw := 0, overdraw := 0, restore := 0,
      loads := tset (Vector.replicate 18 Load.zero) 1 ⟨30, 0, 30, 0, false⟩,
      totals := ⟨⟨0, 0, 1140⟩, ⟨30, 30, 1110⟩, ⟨0, 0, 1110⟩, ⟨0, 0, 1110⟩, ⟨0, 0, 1110⟩, ⟨0, 0, 1110⟩⟩,
      channels := Vector.replicate 24 (Channel.start ChannelCfg.factory),
      realloc := false }
  freeDrawn := 0
  mode := .setup
  field := ⟨⟨FieldRx.idle, FieldRx.idle⟩, Vector.replicate 40 none, FieldCounters.zero, FieldCounters.zero,
    0, Transmit.empty⟩
  position := ⟨Coeffs.identity, ⟨Track.empty, Track.empty, Track.empty⟩,
    ⟨StakeRec.unset, StakeRec.unset, StakeRec.unset⟩, none⟩
  planner := Planner.start PlanCfg.factory
  link := Link.start
  store := Store.blank
  pending := []

end Sys2Proof.Machine
end

