-- ==== Sys2Proof/Machine/Ops.lean ====
section
/-! DEFINITION. The named operations over the pieces of state that several blocks share: time, reports,
the cell grid and the Garden Map's decisions, output channels, asks and the allocation of watts. -/

namespace Sys2Proof.Machine

/-! ### Numbers -/

/-- A value clamped into a setting's range (R185). -/
def clamp (lo hi x : Nat) : Nat := max lo (min hi x)

/-- A division rounded up (00_scope, Division). -/
def ceilDiv (a b : Nat) : Nat := (a + b - 1) / b

/-- A division of a signed value rounded to the nearest integer, halves toward plus infinity (R46, R50),
for a divisor of either sign other than 0. -/
def roundDiv (a b : Int) : Int :=
  if b < 0 then Int.fdiv (2 * (-a) + (-b)) (2 * (-b)) else Int.fdiv (2 * a + b) (2 * b)

/-- A count that stays at its limit once it has reached it (R30, R183, R191). -/
def bump (limit n : Nat) : Nat := if n < limit then n + 1 else n

/-- A pin voltage in microvolts read against a full scale of 3.0 V (R102, R109, R167, R175). -/
def readPin (fullScale uv : Nat) : Nat := if uv ≥ 3000000 then fullScale else fullScale * uv / 3000000

/-! ### Numbered things and their tables -/

/-- The slots in ascending order. -/
def allSlots : List Slot := [.s0, .s1, .s2]

/-- The nozzles in ascending order. -/
def allNozzles : List Nozzle := [.n1, .n2, .n3, .n4]

/-- The stakes in ascending order. -/
def allStakes : List Stake := [.k1, .k2, .k3]

/-- A slot's number. -/
def slotNo : Slot → Nat
  | .s0 => 0
  | .s1 => 1
  | .s2 => 2

/-- A nozzle's number. -/
def nozzleNo : Nozzle → Nat
  | .n1 => 1
  | .n2 => 2
  | .n3 => 3
  | .n4 => 4

/-- A stake's number. -/
def stakeNo : Stake → Nat
  | .k1 => 1
  | .k2 => 2
  | .k3 => 3

/-- The slot of a number 0–2. -/
def slotOf? : Nat → Option Slot
  | 0 => some .s0
  | 1 => some .s1
  | 2 => some .s2
  | _ => none

/-- The nozzle of a number 1–4. -/
def nozzleOf? : Nat → Option Nozzle
  | 1 => some .n1
  | 2 => some .n2
  | 3 => some .n3
  | 4 => some .n4
  | _ => none

/-- The stake of a number 1–3. -/
def stakeOf? : Nat → Option Stake
  | 1 => some .k1
  | 2 => some .k2
  | 3 => some .k3
  | _ => none

/-- The index of a number 1–n in a table of n records. -/
def index? (n k : Nat) : Option (Fin n) :=
  if h : 1 ≤ k ∧ k ≤ n then some ⟨k - 1, by omega⟩ else none

/-- The number of an optional zone; 0 is no zone. -/
def zoneNo : Option ZoneId → Nat
  | none => 0
  | some z => z.val + 1

/-- A slot's value. -/
def BySlot.get {α : Type} (t : BySlot α) : Slot → α
  | .s0 => t.s0
  | .s1 => t.s1
  | .s2 => t.s2

/-- A slot's value replaced. -/
def BySlot.put {α : Type} (t : BySlot α) (k : Slot) (x : α) : BySlot α :=
  match k with
  | .s0 => { t with s0 := x }
  | .s1 => { t with s1 := x }
  | .s2 => { t with s2 := x }

/-- A line's value. -/
def ByLine.get {α : Type} (t : ByLine α) : Line → α
  | .a => t.a
  | .b => t.b

/-- A line's value replaced. -/
def ByLine.put {α : Type} (t : ByLine α) (l : Line) (x : α) : ByLine α :=
  match l with
  | .a => { t with a := x }
  | .b => { t with b := x }

/-- A stake's value. -/
def ByStake.get {α : Type} (t : ByStake α) : Stake → α
  | .k1 => t.k1
  | .k2 => t.k2
  | .k3 => t.k3

/-- A stake's value replaced. -/
def ByStake.put {α : Type} (t : ByStake α) (k : Stake) (x : α) : ByStake α :=
  match k with
  | .k1 => { t with k1 := x }
  | .k2 => { t with k2 := x }
  | .k3 => { t with k3 := x }

/-- A nozzle's value. -/
def nget {α : Type} (t : ByNozzle α) : Nozzle → α
  | .n1 => t.n1
  | .n2 => t.n2
  | .n3 => t.n3
  | .n4 => t.n4

/-- A nozzle's value replaced. -/
def nput {α : Type} (t : ByNozzle α) (n : Nozzle) (x : α) : ByNozzle α :=
  match n with
  | .n1 => { t with n1 := x }
  | .n2 => { t with n2 := x }
  | .n3 => { t with n3 := x }
  | .n4 => { t with n4 := x }

/-- Each nozzle's value mapped. -/
def nmap {α β : Type} (f : α → β) (t : ByNozzle α) : ByNozzle β := ⟨f t.n1, f t.n2, f t.n3, f t.n4⟩

/-- An ascending set of numbered items with no item twice, from a membership test. -/
def setOf {n : Nat} (p : Fin n → Bool) : List (Fin n) := (List.finRange n).filter p

/-! ### Time (R10) -/

/-- The present running time in ms. -/
def Bench.now (b : Bench) : Nat := b.time.secs * 1000 + b.time.ms

/-- The sender of an expiry's command says that the running time has reached the expiry's instant `t`:
within the present second the running time moves up to it, never back (assumption log 1). -/
def Time.reach (x : Time) (t : Nat) : Time :=
  if t / 1000 = x.secs ∧ x.ms < t % 1000 then { x with ms := t % 1000 } else x

/-- `Time.reach` on the bench. -/
def Bench.reach (b : Bench) (t : Nat) : Bench := { b with time := b.time.reach t }

/-- Whether an expiry lies no later than the end of the present second: then the running time has reached it,
or reaches it within the second (assumption log 1). -/
def Bench.reached (b : Bench) (t : Nat) : Bool := decide (t / 1000 ≤ b.time.secs)

/-- One millisecond of running time without a command: the milliseconds run up to the end of the present
second, where CLOCK_SECOND takes over (assumption log 1). -/
def Time.tick (x : Time) : Time := { x with ms := bump 999 x.ms }

/-- Whole seconds left until a running time in ms, truncated (00_scope, Division; assumption log 7). -/
def Bench.secsLeft (b : Bench) (t : Nat) : Nat := (t - b.now) / 1000

/-- The seconds since a running time in ms, as replies give it: the elapsed milliseconds truncated (R125, R194; DESIGN
CHOICE, assumption log 87). -/
def Bench.secsSince (b : Bench) (t : Nat) : Nat := (b.now - t) / 1000

/-- Today: the garden clock's day (R77); 0 while the clock is UNSET, when no rule reads it. -/
def Bench.today (b : Bench) : Nat :=
  match b.clock with
  | some c => c.day
  | none => 0

/-! ### Reports (R191) -/

/-- The kind code of a report (R195). -/
def ReportBody.code : ReportBody → Nat
  | .started .. => 1
  | .settingsLost => 2
  | .settingsStored _ => 3
  | .settingsStoreFailed _ => 4
  | .mowerState .. => 5
  | .zoneRoundDone .. => 6
  | .rainState _ => 7
  | .rainSilent => 8
  | .stakeCaptured .. => 9
  | .calibrationFailed .. => 10
  | .filterState .. => 11
  | .filterMarginal .. => 12
  | .topupCapped .. => 13
  | .fountainSupply _ => 14
  | .showEnded => 15
  | .showFault .. => 16
  | .showDry _ => 17
  | .duskState .. => 18
  | .duskSilent => 19
  | .lightFault .. => 20
  | .powerDerated .. => 21
  | .powerRestored .. => 22
  | .channelTrip .. => 23

/-- A posted report decided on the queue as it stands: masked, joined at the tail, or dropped and counted
lost (R191). -/
def Reports.add (q : Reports) (stamp : Stamp) (r : ReportBody) : Reports :=
  if q.mask.getLsbD r.code = false then q
  else if q.queue.length < 32 then { q with queue := q.queue ++ [⟨stamp, r⟩] }
  else { q with lost := bump 255 q.lost }

/-- The time stamp of a report posted now (R191). -/
def Bench.stamp (b : Bench) : Stamp :=
  match b.clock with
  | some c => .clock c.day c.second
  | none => .running b.time.secs

/-- Post a report (R191). -/
def Bench.post (b : Bench) (r : ReportBody) : Bench := { b with reports := b.reports.add b.stamp r }

/-- ATTN is driven low (active) while the report queue holds a report (R191). -/
def Bench.attnLow (b : Bench) : Bool := !b.reports.queue.isEmpty

/-! ### The cell grid (R1) -/

/-- A cell's place in the grid's order: row by row, column by column. -/
def CellAddr.key (a : CellAddr) : Nat := a.row.val * 96 + a.col.val

/-- The cell of a grid key. -/
def CellAddr.ofKey (k : Nat) : CellAddr :=
  ⟨⟨k % 96, Nat.mod_lt _ (by decide)⟩, ⟨k / 96 % 64, Nat.mod_lt _ (by decide)⟩⟩

/-- The record at a key; a key that is not listed holds the blank record. -/
def Grid.find : Grid → Nat → Cell
  | [], _ => Cell.blank
  | (k, c) :: g, n => if n = k then c else if n < k then Cell.blank else Grid.find g n

/-- Write a record at a key, keeping the canonical form. -/
def Grid.put : Grid → Nat → Cell → Grid
  | [], n, x => if x = Cell.blank then [] else [(n, x)]
  | (k, c) :: g, n, x =>
    if n = k then (if x = Cell.blank then g else (n, x) :: g)
    else if n < k then (if x = Cell.blank then (k, c) :: g else (n, x) :: (k, c) :: g)
    else (k, c) :: Grid.put g n x

/-- Change every listed record, keeping the canonical form. -/
def Grid.remap (f : Cell → Cell) (g : Grid) : Grid :=
  (g.map (fun p => (p.1, f p.2))).filter (fun p => p.2 ≠ Cell.blank)

/-- The canonical form: keys strictly rising and within the grid, no listed record blank. -/
def Grid.wf (g : Grid) : Bool :=
  decide (g.Pairwise (fun p q => p.1 < q.1)) && g.all (fun p => decide (p.1 < 6144) && decide (p.2 ≠ Cell.blank))

/-- The record of a cell (R1). -/
def MapUnit.cell (m : MapUnit) (a : CellAddr) : Cell := m.grid.find a.key

/-- Write the record of a cell. -/
def MapUnit.setCell (m : MapUnit) (a : CellAddr) (c : Cell) : MapUnit :=
  { m with grid := m.grid.put a.key c }

/-- A zone record. -/
def MapUnit.zone (m : MapUnit) (z : ZoneId) : Zone := tget m.zones z

/-- Write a zone record. -/
def MapUnit.setZone (m : MapUnit) (z : ZoneId) (r : Zone) : MapUnit := { m with zones := tset m.zones z r }

/-- The cells that carry a zone's number, in grid order. -/
def MapUnit.cellsOf (m : MapUnit) (z : ZoneId) : List (Nat × Cell) :=
  m.grid.filter (fun p => p.2.zone = some z)

/-- A zone is in use while at least one cell carries its number (R2). -/
def MapUnit.inUse (m : MapUnit) (z : ZoneId) : Bool := !(m.cellsOf z).isEmpty

/-- The cell of a garden position inside the plan (R1). -/
def cellOfPosition (x y : Nat) : CellAddr :=
  ⟨⟨x / 50 % 96, Nat.mod_lt _ (by decide)⟩, ⟨y / 50 % 64, Nat.mod_lt _ (by decide)⟩⟩

/-! ### Zones, mowability and claims (R4, R8, R9) -/

/-- The state of a zone's mark (R10). -/
def Zone.mark (z : Zone) : Mark → MarkState
  | .nozzle n => nget z.splashMarks n
  | .discharge => z.dischargeMark

/-- Write a zone's mark. -/
def Zone.setMark (z : Zone) (m : Mark) (s : MarkState) : Zone :=
  match m with
  | .nozzle n => { z with splashMarks := nput z.splashMarks n s }
  | .discharge => { z with dischargeMark := s }

/-- The five marks (R3). -/
def allMarks : List Mark := [.nozzle .n1, .nozzle .n2, .nozzle .n3, .nozzle .n4, .discharge]

/-- A zone is wet while its wet-mark set is not empty (R3). -/
def Zone.wet (z : Zone) : Bool := allMarks.any (fun m => z.mark m ≠ .absent)

/-- Whether a cell's zone is wet; zone 0 holds no mark. -/
def MapUnit.wetAt (m : MapUnit) (a : CellAddr) : Bool :=
  match (m.cell a).zone with
  | none => false
  | some z => (m.zone z).wet

/-- Mowable (R4). -/
def MapUnit.mowable (m : MapUnit) (a : CellAddr) : Bool :=
  match (m.cell a).zone with
  | none => false
  | some z =>
    (m.zone z).cfg.kind = .lawn && !(m.zone z).cfg.withdrawn && !(m.cell a).blocked && !(m.zone z).wet

/-- GM's answer to a claim request (R8). -/
inductive ClaimAnswer | granted | yield | wet | unmowable
  deriving DecidableEq, Repr

/-- The answer to a claim request, cases in the order of R8's table. -/
def MapUnit.claimAnswer (m : MapUnit) (k : Slot) (a : CellAddr) : ClaimAnswer :=
  if (m.cell a).claim = some k then .granted
  else if (m.cell a).claim.isSome then .yield
  else if m.wetAt a then .wet
  else if m.mowable a then .granted
  else .unmowable

/-- A claim request decided and applied as one step (R8). -/
def MapUnit.claim (m : MapUnit) (k : Slot) (a : CellAddr) : MapUnit :=
  if m.claimAnswer k a = .granted then m.setCell a { m.cell a with claim := some k } else m

/-- Release of one cell (R9). -/
def MapUnit.release (m : MapUnit) (k : Slot) (a : CellAddr) : MapUnit :=
  if (m.cell a).claim = some k then m.setCell a { m.cell a with claim := none } else m

/-- A cell without the claim of one mower. -/
def Cell.unclaim (k : Slot) (c : Cell) : Cell := if c.claim = some k then { c with claim := none } else c

/-- Release of all claims of a mower (R9). -/
def MapUnit.releaseAll (m : MapUnit) (k : Slot) : MapUnit :=
  { m with grid := m.grid.remap (Cell.unclaim k) }

/-- Stamp a cell's last-mown day (R1, R86). -/
def MapUnit.stampMown (m : MapUnit) (a : CellAddr) (day : Nat) : MapUnit :=
  m.setCell a { m.cell a with lastMown := some day }

/-- Whether a zone has a claimed cell (R11). -/
def MapUnit.claimedIn (m : MapUnit) (z : ZoneId) : Bool := (m.cellsOf z).any (fun p => p.2.claim.isSome)

/-- The cells of a list of grid entries that a mower holds claims on. -/
def claimedBy (k : Slot) (cells : List (Nat × Cell)) : List CellAddr :=
  (cells.filter (fun p => p.2.claim = some k)).map (fun p => CellAddr.ofKey p.1)

/-! ### Wet marks (R10–R14) -/

/-- A change applied to every zone. -/
def MapUnit.mapZones (m : MapUnit) (f : Zone → Zone) : MapUnit :=
  (List.finRange 48).foldl (fun m z => m.setZone z (f (m.zone z))) m

/-- The zone set of a nozzle: every zone whose splash nozzle it is, withdrawn zones included (R11). -/
def MapUnit.splashZones (m : MapUnit) (n : Nozzle) : List ZoneId :=
  setOf (fun z => (m.zone z).cfg.splash = some n)

/-- Whether GM grants a splash mark: no cell of the nozzle's zone set holds a claim (R11). -/
def MapUnit.splashGranted (m : MapUnit) (n : Nozzle) : Bool :=
  (m.splashZones n).all (fun z => !m.claimedIn z)

/-- A splash request decided and applied as one step (R11). -/
def MapUnit.requestSplash (m : MapUnit) (n : Nozzle) : MapUnit :=
  if m.splashGranted n then
    m.mapZones (fun z => if z.cfg.splash = some n then z.setMark (.nozzle n) .held else z)
  else m

/-- A HELD mark that becomes DRYING with an expiry; any other mark stays (R12, R14). -/
def MarkState.startDrying (expiry : Nat) : MarkState → MarkState
  | .held => .drying expiry
  | s => s

/-- Clear a nozzle's splash mark: every HELD mark becomes DRYING (R12). -/
def MapUnit.clearSplash (m : MapUnit) (n : Nozzle) (expiry : Nat) : MapUnit :=
  m.mapZones (fun z => z.setMark (.nozzle n) ((z.mark (.nozzle n)).startDrying expiry))

/-- The zone marked discharge (R2, R13). -/
def MapUnit.dischargeZone (m : MapUnit) : Option ZoneId :=
  (List.finRange 48).find? (fun z => (m.zone z).cfg.discharge)

/-- A cell of a zone without its claim. -/
def Cell.unclaimIn (z : ZoneId) (c : Cell) : Cell := if c.zone = some z then { c with claim := none } else c

/-- Set the discharge mark and clear the claims of the discharge zone (R13). -/
def MapUnit.setDischarge (m : MapUnit) : MapUnit :=
  match m.dischargeZone with
  | none => m
  | some z =>
    let m := m.setZone z ((m.zone z).setMark .discharge .held)
    { m with grid := m.grid.remap (Cell.unclaimIn z) }

/-- Start the drain: every HELD discharge mark becomes DRYING (R14). -/
def MapUnit.startDrain (m : MapUnit) (expiry : Nat) : MapUnit :=
  m.mapZones (fun z => z.setMark .discharge ((z.mark .discharge).startDrying expiry))

/-- A DRYING mark's expiry is reached: the mark leaves the set (R10). -/
def MapUnit.markExpired (m : MapUnit) (z : ZoneId) (k : Mark) : MapUnit :=
  match (m.zone z).mark k with
  | .drying _ => m.setZone z ((m.zone z).setMark k .absent)
  | _ => m

/-! ### The block list (R6, R7) -/

/-- Insert an entry after every entry that expires no later (R6). -/
def insertBlock (e : BlockEntry) : List BlockEntry → List BlockEntry
  | [] => [e]
  | f :: l => if e.expiry < f.expiry then e :: f :: l else f :: insertBlock e l

/-- Set a cell's blocked flag. -/
def MapUnit.setBlocked (m : MapUnit) (a : CellAddr) (v : Bool) : MapUnit :=
  m.setCell a { m.cell a with blocked := v }

/-- Remove the first entry of the block list (R6, R7). -/
def MapUnit.dropFirstBlock (m : MapUnit) : MapUnit :=
  match m.blockList with
  | [] => m
  | e :: l => { m with blockList := l }.setBlocked e.cell false

/-- List an obstacle's cell, or re-time it (R6). -/
def MapUnit.listBlock (m : MapUnit) (a : CellAddr) (expiry : Nat) : MapUnit :=
  if m.blockList.any (fun e => e.cell = a) then
    { m with blockList := insertBlock ⟨a, expiry⟩ (m.blockList.filter (fun e => e.cell ≠ a)) }
  else
    let m := if m.blockList.length < 64 then m else m.dropFirstBlock
    { m with blockList := insertBlock ⟨a, expiry⟩ m.blockList }.setBlocked a true

/-! ### Output channels (R172–R175) -/

/-- The channel that carries a function. -/
def PowerUnit.channelOf (p : PowerUnit) (f : Fn) : Option ChannelId :=
  (List.finRange 24).find? (fun c => (tget p.channels c).cfg.function = some f)

/-- Whether PW holds the channel of a function TRIPPED. -/
def PowerUnit.fnTripped (p : PowerUnit) (f : Fn) : Bool :=
  match p.channelOf f with
  | none => false
  | some c => (tget p.channels c).state = .tripped

/-- The latest current sample of the channel of a function. -/
def PowerUnit.fnCurrent (p : PowerUnit) (f : Fn) : Option Nat :=
  (p.channelOf f).map (fun c => (tget p.channels c).current)

/-- Whether a level would switch the channel from what it applies now (R174): between off and on, and
on a RELAY any change. -/
def Channel.needsSwitch (c : Channel) (level : Nat) : Bool :=
  match c.cfg.type with
  | .relay => level ≠ c.applied
  | _ => decide (level = 0) != decide (c.applied = 0)

/-- The level driven, with the state that follows it (R173); `Channel.pin` is what the pin then does. -/
def Channel.drive (c : Channel) (level : Nat) : Channel :=
  { c with applied := level, state := if level = 0 then .idle else .driving }

/-- A requested level judged against the applied level (R174). -/
def Channel.judge (c : Channel) (now : Nat) : Channel :=
  if c.state = .tripped then c
  else if c.needsSwitch c.requested = false then { c.drive c.requested with holdExpiry := none }
  else if c.holdExpiry.isSome then c
  else
    match c.lastSwitch with
    | some t =>
      if t + c.cfg.interval * 1000 ≤ now then { c.drive c.requested with lastSwitch := some now }
      else { c with holdExpiry := some (t + c.cfg.interval * 1000) }
    | none => { c.drive c.requested with lastSwitch := some now }

/-- A change of a channel's requested level (R174). -/
def Channel.request (c : Channel) (level now : Nat) : Channel :=
  if level = c.requested then c else { c with requested := level }.judge now

/-- What the DRV pin of a channel does (R173). -/
inductive PinDrive
  /-- A RELAY: closed while the applied level is above 0. -/
  | contact (closed : Bool)
  /-- A PWM output: the duty as a numerator over 1,000, at a frequency in Hz. -/
  | pulses (duty hertz : Nat)
  /-- A PROPORTIONAL output: the share of the driver's full scale as a numerator over 1,000. -/
  | share (permille : Nat)
  deriving DecidableEq, Repr

/-- The drive of a channel's DRV pin: its applied level by its type (R173). -/
def Channel.pin (c : Channel) : PinDrive :=
  match c.cfg.type with
  | .relay => .contact (decide (0 < c.applied))
  | .pwm => .pulses c.applied c.frequency
  | .proportional => .share c.applied

/-- The hold expiry is reached: the requested level as it stands is applied (R174). -/
def Channel.holdReached (c : Channel) (now : Nat) : Channel :=
  match c.holdExpiry with
  | none => c
  | some _ =>
    let switched := c.needsSwitch c.requested
    let c := { c.drive c.requested with holdExpiry := none }
    if switched then { c with lastSwitch := some now } else c

/-- The fountain supply is WITHHELD while its causes are not empty (R124). -/
def Bench.withheld (b : Bench) : Bool := b.water.causes.lowLevel || b.water.causes.backwash || b.water.causes.trip

/-- The level that a function's owner sets now (R173). -/
def Bench.levelOf (b : Bench) : Fn → Nat
  | .filterPump => b.water.filter.step * 1000 / 16
  | .backwashValve => if b.water.filter.state = .backwash then 1000 else 0
  | .topupValve => if b.water.topup = .opened then 1000 else 0
  | .fountainPump =>
    if b.withheld then 0
    else
      let h := b.shows.heights
      max (max h.n1.e h.n2.e) (max h.n3.e h.n4.e)
  | .nozzle n => (nget b.shows.heights n).e
  | .charger k => (b.fleet.get k).chargerLevel
  | .light c => (tget b.lights.circuits c).output

/-- The PWM frequency that a function's owner hands over with its level (R159, R173). -/
def Bench.frequencyOf (b : Bench) : Fn → Nat
  | .light c => (tget b.lights.circuits c).cfg.frequency
  | _ => 1000

/-- Carry a function's present level to its channel, if it has one (R173). -/
def Bench.carry (b : Bench) (f : Fn) : Bench :=
  match b.power.channelOf f with
  | none => b
  | some c =>
    let ch := { tget b.power.channels c with frequency := b.frequencyOf f }
    { b with power := { b.power with channels := tset b.power.channels c (ch.request (b.levelOf f) b.now) } }

/-! ### Asks and the allocation (R169–R171) -/

/-- The load of the filter pump. -/
def filterLoad : LoadId := 0

/-- The load of the top-up valve. -/
def topupLoad : LoadId := 1

/-- The load of the fountain pump. -/
def fountainLoad : LoadId := 2

/-- The load of a slot's charger. -/
def chargerLoad : Slot → LoadId
  | .s0 => 3
  | .s1 => 4
  | .s2 => 5

/-- The load of a light circuit. -/
def lightLoad (c : Circuit) : LoadId := ⟨c.val + 6, by omega⟩

/-- The function of a load (R169). -/
def loadFn (i : LoadId) : Fn :=
  if i.val = 0 then .filterPump
  else if i.val = 1 then .topupValve
  else if i.val = 2 then .fountainPump
  else if i.val = 3 then .charger .s0
  else if i.val = 4 then .charger .s1
  else if i.val = 5 then .charger .s2
  else .light ⟨(i.val - 6) % 12, Nat.mod_lt _ (by decide)⟩

/-- The load of a function that is a load's function (R169). -/
def loadOf? : Fn → Option LoadId
  | .filterPump => some filterLoad
  | .topupValve => some topupLoad
  | .fountainPump => some fountainLoad
  | .charger k => some (chargerLoad k)
  | .light c => some (lightLoad c)
  | _ => none

/-- A load record. -/
def Bench.load (b : Bench) (i : LoadId) : Load := tget b.power.loads i

/-- Post a load's asks; an ask that differs from the one PW holds calls for an allocation (R169, R171). -/
def Bench.postAsk (b : Bench) (i : LoadId) (askA askB : Nat) : Bench :=
  let l := b.load i
  if l.askA = askA ∧ l.askB = askB then b
  else
    { b with power := { b.power with
        loads := tset b.power.loads i { l with askA := askA, askB := askB, asked := true }, realloc := true } }

/-- Call for PW's answer to an ask that may not have changed: the search reads the grant at each Raising
(R114). -/
def Bench.callForGrant (b : Bench) (i : LoadId) : Bench :=
  { b with power := { b.power with
      loads := tset b.power.loads i { b.load i with asked := true }, realloc := true } }

/-- Call for an allocation (R171). -/
def Bench.callAllocation (b : Bench) : Bench := { b with power := { b.power with realloc := true } }

/-- Available watts (R166). -/
def PowerUnit.available (p : PowerUnit) : Nat := p.ceff * (1000 - p.cfg.reserve) / 1000

/-- Whether a load's effective asks are 0 (R169). -/
def Bench.muted (b : Bench) (i : LoadId) : Bool :=
  b.power.fnTripped (loadFn i) || (decide (i = fountainLoad) && b.withheld)

/-- A load's effective asks (R169). -/
def Bench.effective (b : Bench) (i : LoadId) : Nat × Nat :=
  if b.muted i then (0, 0) else ((b.load i).askA, (b.load i).askB)

/-- Hand the leftover watts out one at a time to the loads with a non-zero ask, in order (R170). -/
def handOut : Nat → List Nat → List Nat → List Nat
  | left, a :: asks, g :: shares =>
    if 0 < left ∧ 0 < a then (g + 1) :: handOut (left - 1) asks shares else g :: handOut left asks shares
  | _, _, shares => shares

/-- The grants of one class (R170). -/
def shareOut (remaining : Nat) (asks : List Nat) : List Nat :=
  if asks.sum ≤ remaining then asks
  else
    let shares := asks.map (fun a => remaining * a / asks.sum)
    handOut (remaining - shares.sum) asks shares

/-- The light circuits' loads. -/
def lightLoads : List LoadId := (List.finRange 12).map lightLoad

/-- Write the grants of a class into the first (`true`) or second part of its loads. -/
def writeGrants (first : Bool) : Vector Load 18 → List LoadId → List Nat → Vector Load 18
  | v, i :: is, g :: gs =>
    let l := tget v i
    writeGrants first (tset v i (if first then { l with grantA := g } else { l with grantB := g })) is gs
  | v, _, _ => v

/-- Allocate one class: the loads with their new grants, the totals of the class, and what remains. -/
def allocateClass (v : Vector Load 18) (remaining : Nat) (first : Bool) (members : List LoadId)
    (asks : List Nat) : Vector Load 18 × ClassTotals :=
  let grants := shareOut remaining asks
  (writeGrants first v members grants, ⟨asks.sum, grants.sum, remaining - grants.sum⟩)

/-- An allocation: A shared over the effective asks, class by class in the order of R169 (R170). -/
def Bench.allocate (b : Bench) : Bench :=
  let first := fun is => is.map (fun i => (b.effective i).1)
  let second := fun is => is.map (fun i => (b.effective i).2)
  let safety := topupLoad :: lightLoads
  let chargers := allSlots.map chargerLoad
  let r1 := allocateClass b.power.loads b.power.available true [filterLoad] (first [filterLoad])
  let r2 := allocateClass r1.1 r1.2.remaining true safety (first safety)
  let r3 := allocateClass r2.1 r2.2.remaining false [filterLoad] (second [filterLoad])
  let r4 := allocateClass r3.1 r3.2.remaining true chargers (first chargers)
  let r5 := allocateClass r4.1 r4.2.remaining true [fountainLoad] (first [fountainLoad])
  let r6 := allocateClass r5.1 r5.2.remaining false lightLoads (second lightLoads)
  { b with power := { b.power with
      loads := r6.1, totals := ⟨r1.2, r2.2, r3.2, r4.2, r5.2, r6.2⟩, realloc := false } }

/-- The loads whose owners are handed their grants after an allocation: those whose grant changed and
those that posted an ask PW had not answered, in ascending index (R171). -/
def toldAfter (old new : Bench) : List LoadId :=
  setOf (fun i => (old.load i).asked || decide ((old.load i).grantA ≠ (new.load i).grantA) ||
    decide ((old.load i).grantB ≠ (new.load i).grantB))

end Sys2Proof.Machine
end

