-- ==== Sys2Proof/Machine/Flags.lean ====
section
/-! DEFINITION. The flags, figures and judgements that the rules compute from readings and times:
level flags, the figure of merit, the wind factor, the dusk candidate, quiet hours, the late window,
day distances, and the silence of sensors. -/

namespace Sys2Proof.Machine

/-- A level flag with its hysteresis: sets below one level, clears at or above another, and keeps its
state between them (R102). -/
def levelFlag (was : Bool) (setsBelow clearsAt level : Nat) : Bool :=
  if level < setsBelow then true else if clearsAt ≤ level then false else was

/-- A signed value clamped into −1,000..1,000 (R110). -/
def clampMargin (x : Int) : Int := max (-1000) (min 1000 x)

/-- The flow margin sf (R110). -/
def flowMargin (c : FilterCfg) (r : GateResult) : Int :=
  clampMargin (Int.tdiv (((r.q : Int) - c.qMin) * 1000) c.qMin)

/-- The pressure margin sp (R110). -/
def pressureMargin (c : FilterCfg) (r : GateResult) : Int :=
  clampMargin (Int.tdiv (((c.dpMax : Int) - r.dp) * 1000) c.dpMax)

/-- The figure of merit (R110). -/
def figureOfMerit (c : FilterCfg) (r : GateResult) : Int :=
  match c.merit with
  | .both => min (flowMargin c r) (pressureMargin c r)
  | .flow => flowMargin c r
  | .pressure => pressureMargin c r

/-- The result of a gate from its pulses and the two pressures (R109). -/
def gateResult (c : FilterCfg) (pulses pre post : Nat) : GateResult :=
  ⟨pulses, min 65535 (pulses * 6000 / c.k100), pre, post, pre - post⟩

/-- The wind factor (R142). -/
def windFactorOf (c : ShowCfg) (v : Nat) : Nat :=
  if v ≤ c.calm then 1000 else if c.cutoff ≤ v then 0 else 1000 * (c.cutoff - v) / (c.cutoff - c.calm)

/-- The candidate dusk state of a reading (R150). -/
def duskCandidate (present : DuskState) (lux : Nat) : DuskState :=
  if 600 ≤ lux then .day
  else if 400 ≤ lux then (match present with | .day => .day | .dusk => .dusk | .night => .dusk)
  else if 60 ≤ lux then .dusk
  else if 40 ≤ lux then (match present with | .day => .dusk | .dusk => .dusk | .night => .night)
  else .night

/-- Whether a second of the day lies in the quiet window (R97). -/
def quietAt (c : PlanCfg) (s : Nat) : Bool :=
  if c.quietStart < c.quietEnd then decide (c.quietStart * 60 ≤ s ∧ s < c.quietEnd * 60)
  else if c.quietEnd < c.quietStart then decide (c.quietStart * 60 ≤ s ∨ s < c.quietEnd * 60)
  else false

/-- The part is in quiet hours (R97). -/
def Garden.inQuiet (g : Garden) : Bool :=
  match g.clock with
  | none => false
  | some c => quietAt g.planner.cfg c.second

/-- Whether a second of the day lies in the late window of a late time (R153). -/
def lateAt (lateTime s : Nat) : Bool :=
  if 720 ≤ lateTime then decide (lateTime * 60 ≤ s ∨ s < 43200) else decide (lateTime * 60 ≤ s ∧ s < 43200)

/-- The part is in the late window (R153); outside it while the clock is UNSET. -/
def Bench.inLate (b : Bench) : Bool :=
  match b.clock with
  | none => false
  | some c => lateAt b.lights.lateTime c.second

/-- The distance of day `d` from day `r` on the circle of 65,536 days (R77). -/
def dayDistance (d r : Nat) : Int :=
  let x : Int := ((d : Int) - r) % 65536
  if 32768 ≤ x then x - 65536 else x

/-- The latest last-heard among the sources of a kind, or `none` if no source of the kind was heard
(R23). -/
def FieldUnit.latestHeard (f : FieldUnit) (k : SourceKind) : Option Nat :=
  f.sources.toList.foldl (fun acc x =>
    match x with
    | some src => if src.cfg.kind = k then (match acc, src.lastHeard with
        | some a, some t => some (max a t)
        | none, t => t
        | a, none => a) else acc
    | none => acc) none

/-- Whether the part has at least one source of a kind (R96, R142, R151). -/
def FieldUnit.hasKind (f : FieldUnit) (k : SourceKind) : Bool :=
  f.sources.toList.any (fun x => match x with
    | some src => src.cfg.kind = k
    | none => false)

/-- The seconds without a WIND delivery after which the wind is silent (R142). -/
def windLimit : Nat := 60

/-- The seconds without a DUSK delivery after which the dusk sensor is silent (R151). -/
def duskLimit : Nat := 600

/-- The seconds without a RAIN delivery after which the rain sensor is silent (R96). -/
def rainLimit : Nat := 1800

/-- A sensor kind is silent: the part has a source of it and the latest last-heard among them is more than
`limit` seconds old, counted from power-on if none was heard at all (R23, R96, R142, R151). Last-heard is a
running second count, so the age is counted in whole seconds (assumption log 26). -/
def Garden.silentFor (g : Garden) (k : SourceKind) (limit : Nat) : Bool :=
  g.field.hasKind k && decide ((g.field.latestHeard k).getD 0 + limit < g.time.secs)

/-- The states in which a mower's heartbeat is supervised (R61). -/
def MowerState.supervised : MowerState → Bool
  | .outbound => true
  | .mowing => true
  | .paused _ => true
  | .homebound _ => true
  | .faulted _ => true
  | .absent => false
  | .docked => false
  | .charging => false
  | .lost => false

/-- The working states (R54). -/
def MowerState.working : MowerState → Bool
  | .outbound => true
  | .mowing => true
  | .paused _ => true
  | .absent => false
  | .docked => false
  | .charging => false
  | .homebound _ => false
  | .lost => false
  | .faulted _ => false

/-- DOCKED or CHARGING. -/
def MowerState.atDock : MowerState → Bool
  | .docked => true
  | .charging => true
  | _ => false

/-- PAUSED, whatever the cause. -/
def MowerState.isPaused : MowerState → Bool
  | .paused _ => true
  | _ => false

/-- FAULTED, whatever the cause. -/
def MowerState.isFaulted : MowerState → Bool
  | .faulted _ => true
  | _ => false

end Sys2Proof.Machine
end

