-- ==== Sys2Proof/Machine/Operands.lean ====
section
/-! DEFINITION. The byte layouts of R19, R182 and R195: the CRC, the readers of request bodies (the
operand forms of the request commands), the field frame, the order frame, and the fields of replies and
reports. Multi-byte fields go high byte first. -/

namespace Sys2Proof.Machine

/-! ### The CRC (R19) -/

/-- One bit of the CRC with generator 0x1021. -/
def crcBit (c : Word16) : Word16 := if c.msb then (c <<< 1) ^^^ 0x1021 else c <<< 1

/-- One byte of the CRC, most significant bit first. -/
def crcByte (c : Word16) (b : Byte) : Word16 :=
  let c := c ^^^ ((b.zeroExtend 16) <<< 8)
  crcBit (crcBit (crcBit (crcBit (crcBit (crcBit (crcBit (crcBit c)))))))

/-- The CRC over a run of bytes, from 0xFFFF, with no final inversion (R19). -/
def crc16 (bytes : List Byte) : Word16 := bytes.foldl crcByte 0xFFFF

/-- The two CRC bytes, high byte first. -/
def crcBytes (c : Word16) : List Byte := [(c >>> 8).setWidth 8, c.setWidth 8]

/-! ### Writing fields (R195) -/

/-- One field of a body, as its bytes. -/
abbrev Field := List Byte

/-- An unsigned field of `w` bytes, high byte first. -/
def unsignedField : Nat → Nat → Field
  | 0, _ => []
  | w + 1, n => BitVec.ofNat 8 (n / 256 ^ w) :: unsignedField w n

/-- A 1-byte unsigned field. -/
def u1 (n : Nat) : Field := unsignedField 1 n

/-- A 2-byte unsigned field. -/
def u2 (n : Nat) : Field := unsignedField 2 n

/-- A 3-byte unsigned field. -/
def u3 (n : Nat) : Field := unsignedField 3 n

/-- A 4-byte unsigned field. -/
def u4 (n : Nat) : Field := unsignedField 4 n

/-- A signed field of `w` bytes in two's complement. -/
def signedField (w : Nat) (x : Int) : Field := unsignedField w (x % (256 ^ w : Nat)).toNat

/-- A true/false field: 1 or 0. -/
def flag (v : Bool) : Field := u1 v.toNat

/-- An optional field: its presence byte, then the field when it is present. -/
def optField {α : Type} (f : α → Field) : Option α → Field
  | none => [0]
  | some x => 1 :: f x

/-- A set of numbered items, bit k − 1 for item k, in `w` bytes. -/
def setField {n : Nat} (w : Nat) (l : List (Fin n)) : Field :=
  unsignedField w (l.foldl (fun acc i => acc ||| 2 ^ i.val) 0)

/-- A cell: its column, then its row. -/
def cellField (a : CellAddr) : Field := u1 a.col.val ++ u1 a.row.val

/-- A repeated group: its number of entries in 1 byte, then the fields of each. -/
def groupFields {α : Type} (l : List α) (f : α → List Field) : List Field := u1 l.length :: l.flatMap f

/-- A repeated group whose number of entries may exceed 255. -/
def wideGroupFields {α : Type} (l : List α) (f : α → List Field) : List Field :=
  u2 l.length :: l.flatMap f

/-- An optional group of fields: its one presence byte, then the fields when it is present (DESIGN CHOICE,
assumption logs 44, 45, 49 and 59, by reply). -/
def optFields {α : Type} (f : α → List Field) : Option α → List Field
  | none => [[0]]
  | some x => [1] :: f x

/-! ### Codes of names (R195: 1, 2, 3 and on in the order in which the set is first given) -/

def zoneKindCode : ZoneKind → Nat
  | .lawn => 1 | .path => 2 | .pond => 3 | .bed => 4 | .keepout => 5

def sourceKindCode : SourceKind → Nat
  | .mower => 1 | .motion => 2 | .wind => 3 | .rain => 4 | .dusk => 5

def bindingCode : Binding → Nat
  | .a => 1 | .b => 2 | .both => 3

def channelTypeCode : ChannelType → Nat
  | .relay => 1 | .pwm => 2 | .proportional => 3

def fnCode : Fn → Nat
  | .filterPump => 1 | .backwashValve => 2 | .topupValve => 3 | .fountainPump => 4
  | .nozzle n => 4 + nozzleNo n
  | .charger k => 9 + slotNo k
  | .light c => 12 + c.val

def meritCode : MeritType → Nat
  | .both => 1 | .flow => 2 | .pressure => 3

/-- The state code of a mower (R54). -/
def MowerState.code : MowerState → Nat
  | .absent => 1 | .docked => 2 | .charging => 3 | .outbound => 4 | .mowing => 5
  | .paused _ => 6 | .homebound _ => 7 | .lost => 8 | .faulted _ => 9

/-- The cause code of a mower's state, in the order of R54's table of causes. -/
def MowerState.cause? : MowerState → Option Nat
  | .paused .hold => some 1 | .paused .yield => some 2 | .paused .wet => some 3
  | .paused .blocked => some 4 | .paused .recovered => some 5
  | .homebound .battery => some 6 | .homebound .rain => some 7 | .homebound .quiet => some 8
  | .homebound .laneDoneNoWork => some 9 | .homebound .recall => some 10 | .homebound .setup => some 11
  | .faulted .mowerFault => some 12 | .faulted .noEcho => some 13 | .faulted .lifted => some 14
  | .absent => none | .docked => none | .charging => none | .outbound => none | .mowing => none
  | .lost => none

def RainState.code : RainState → Nat
  | .dry => 1 | .wet => 2 | .waiting => 3

def FilterState.code : FilterState → Nat
  | .stopped => 1 | .searching => 2 | .locked => 3 | .backwash => 4 | .starved => 5 | .fault _ => 6

def FilterCause.code : FilterCause → Nat
  | .clogPersists => 1 | .noFlow => 2 | .noPower => 3 | .channelTrip => 4

def FilterState.cause? : FilterState → Option Nat
  | .fault c => some c.code
  | _ => none

def TopupState.code : TopupState → Nat
  | .closed => 1 | .opened => 2 | .waitPower => 3 | .capped => 4 | .tripped => 5

def TrialPhase.code : TrialPhase → Nat
  | .raising => 1 | .settling => 2 | .gating => 3

/-- The code of a limit's origin, in the order of R119's list of recoveries, the first to give both. -/
def LimitOrigin.code : LimitOrigin → Nat
  | .lock => 1 | .search => 2

def CheckKind.code : CheckKind → Nat
  | .clog => 1 | .flow => 2

def EngineState.code : EngineState → Nat
  | .idle => 1 | .running => 2 | .paused => 3 | .faulted => 4

def ShowFaultCause.code : ShowFaultCause → Nat
  | .stackOver => 1 | .stackUnder => 2 | .sceneTooLong => 3 | .badStep => 4 | .repeatWithoutMark => 5
  | .runaway => 6

def DuskState.code : DuskState → Nat
  | .day => 1 | .dusk => 2 | .night => 3

def LampState.code : LampState → Nat
  | .off => 1 | .lit => 2 | .faultOpen => 3 | .faultShort _ => 4

def LampState.cause? : LampState → Option Nat
  | .faultShort .short => some 1
  | .faultShort .trip => some 2
  | _ => none

def ChannelState.code : ChannelState → Nat
  | .idle => 1 | .driving => 2 | .tripped => 3

def Mode.code : Mode → Nat
  | .setup => 1 | .run => 2

def CaptureFailure.code : CaptureFailure → Nat
  | .timeout => 1 | .fieldRestart => 2 | .slotChanged => 3

def Direction.code : Direction → Nat
  | .increasing => 1 | .decreasing => 2

/-- The order kind on the line (R195). -/
def OrderKind.code : OrderKind → Nat
  | .goLane _ => 1 | .hold => 2 | .resume => 3 | .returnHome => 4 | .stop => 5

/-- The reason byte of a refusal (R195). -/
def Reason.code : Reason → Nat
  | .unknownKind => 1 | .badBody => 2 | .noSuch => 3 | .wrongMode => 4 | .busy => 5 | .full => 6
  | .inconsistent => 7 | .degenerate => 8 | .overflow => 9 | .faulted => 10

/-- The fields of a failing item (R178, R187): its name, then what it names, which follows the name without a
presence byte (DESIGN CHOICE, assumption log 62). -/
def FailItem.fields : FailItem → List Field
  | .unbound f => [u1 1, u1 (fnCode f)]
  | .wrongType f ch t => [u1 2, u1 (fnCode f), u1 (ch.val + 1), u1 (channelTypeCode t)]
  | .fleetSource k src => [u1 3, u1 (slotNo k), u1 (src.val + 1)]

/-- The causes of a withheld supply, as a set of names (R124). -/
def SupplyCauses.mask (c : SupplyCauses) : Nat := c.lowLevel.toNat + 2 * c.backwash.toNat + 4 * c.trip.toNat

/-! ### Reports (R195) -/

/-- The body fields of a report. -/
def ReportBody.fields : ReportBody → List Field
  | .started gen none => [u1 1, u4 gen, [0]]
  | .started gen (some item) => [u1 2, u4 gen, [1]] ++ item.fields
  | .settingsLost => []
  | .settingsStored gen => [u4 gen]
  | .settingsStoreFailed gen => [u4 gen]
  | .mowerState k st code battery =>
    [u1 (slotNo k), u1 st.code, optField u1 st.cause?, optField u1 code, optField u1 battery]
  | .zoneRoundDone z day cells skipped => [u1 (z.val + 1), u2 day, u2 cells, u2 skipped]
  | .rainState st => [u1 st.code]
  | .rainSilent => []
  | .stakeCaptured k gx gy rx ry => [u1 (stakeNo k), u2 gx, u2 gy, signedField 2 rx, signedField 2 ry]
  | .calibrationFailed k c => [u1 (stakeNo k), u1 c.code]
  | .filterState st step limited marginal fom =>
    [u1 st.code, optField u1 st.cause?, u1 step, flag limited, flag marginal, optField (signedField 2) fom]
  | .filterMarginal step fom => [u1 step, signedField 2 fom]
  | .topupCapped count cap => [u2 count, u2 cap]
  | .fountainSupply c => [u1 (if c = ⟨false, false, false⟩ then 1 else 2), u1 c.mask]
  | .showEnded => []
  | .showFault c pos => [u1 c.code, u2 pos]
  | .showDry v => [flag v]
  | .duskState st lux => [u1 st.code, u2 lux]
  | .duskSilent => []
  | .lightFault c st current => [u1 (c.val + 1), u1 st.code, optField u1 st.cause?, u2 current]
  | .powerDerated ceff a draw => [u2 ceff, u2 a, u2 draw]
  | .powerRestored ceff a => [u2 ceff, u2 a]
  | .channelTrip ch f current => [u1 (ch.val + 1), optField (fun f => u1 (fnCode f)) f, u2 current]

/-- The six stamp bytes (R195). -/
def Stamp.bytes : Stamp → Field
  | .clock day second => u1 1 ++ u2 day ++ u3 second
  | .running secs => [0, 0] ++ u4 secs

/-- A report in a REPORTS_FETCH reply: kind, body length, stamp, body (R195). -/
def Report.field (r : Report) : Field :=
  let body := r.body.fields.flatten
  u1 r.body.code ++ u1 body.length ++ r.stamp.bytes ++ body

/-! ### Replies (R182, R185, R195) -/

/-- The body of a reply: a refusal's begins with its reason. -/
def Reply.body (r : Reply) : List Byte :=
  match r.verdict with
  | .accepted => r.fields.flatten
  | .refused reason => u1 reason.code ++ r.fields.flatten

/-- The KIND of a reply: 0x01 ACCEPTED or 0x02 REFUSED. -/
def Reply.kindByte (r : Reply) : Byte :=
  match r.verdict with
  | .accepted => 0x01
  | .refused _ => 0x02

/-- A host frame: SYNC, LEN, KIND, TAG, body, CRC over LEN through the last body byte (R182). -/
def hostFrame (kind tag : Byte) (body : List Byte) : List Byte :=
  let covered := BitVec.ofNat 8 body.length :: kind :: tag :: body
  0xC3 :: covered ++ crcBytes (crc16 covered)

/-- The reply as sent on HTXD; a reply to a request that did not come over the link is sent with TAG 0
(assumption log 2). -/
def Reply.frame (r : Reply) : List Byte := hostFrame r.kindByte (r.tag.getD 0) r.body

/-- Cut fields in order into pieces of at most 198 bytes, no field split (R195). `room` is what the open
piece, kept in reverse, still holds. -/
def paginate : Nat → List Field → List Field → List (List Field)
  | _, piece, [] => [piece.reverse]
  | room, piece, f :: fs =>
    if f.length ≤ room then paginate (room - f.length) (f :: piece) fs
    else piece.reverse :: paginate (198 - f.length) [f] fs

/-- The pages of a paged reply. -/
def pagesOf (fields : List Field) : List (List Field) := paginate 198 [] fields

/-- Page `k` of a paged reply with the page and the page count before it, or `none` at or beyond the
count (R185, R195). -/
def pageOf (fields : List Field) (k : Nat) : Option (List Field) :=
  match (pagesOf fields)[k]? with
  | none => none
  | some piece => some (u1 k :: u1 (pagesOf fields).length :: piece)

/-! ### Orders on the line (R32, R195) -/

/-- The payload of an order. -/
def OrderKind.payload : OrderKind → List Byte
  | .goLane f => u2 f.startX ++ u2 f.startY ++ u2 f.endX ++ u2 f.endY ++ u1 f.cutHeight
  | .hold => []
  | .resume => []
  | .returnHome => []
  | .stop => []

/-- An order as sent on FTXD with its link sequence (R32, R195). -/
def Flight.frame (f : Flight) : List Byte :=
  let payload := f.order.kind.payload
  let covered := u1 (f.order.dest.val + 1) ++ u2 f.linkSeq ++ u1 f.order.kind.code ++ u1 f.order.number ++
    u1 payload.length ++ payload
  covered ++ crcBytes (crc16 covered)

/-- An order's length on the line: 8 bytes and its payload (R32). -/
def OrderKind.length (k : OrderKind) : Nat := 8 + k.payload.length

/-- An order's air time in ms: 4 if it is 16 bytes or shorter, otherwise 8 (R32). -/
def OrderKind.airTime (k : OrderKind) : Nat := if k.length ≤ 16 then 4 else 8

/-! ### Reading fields -/

/-- A reader of body bytes: the value read and the bytes after it, or `none` where the bytes run out. -/
abbrev Reader (α : Type) := StateT (List Byte) Option α

/-- One byte. -/
def readByte : Reader Byte := fun l =>
  match l with
  | [] => none
  | b :: t => some (b, t)

/-- An unsigned field of `w` bytes, high byte first. -/
def readUnsigned : Nat → Reader Nat
  | 0 => pure 0
  | w + 1 => do
    let b ← readByte
    let rest ← readUnsigned w
    return b.toNat * 256 ^ w + rest

/-- A 1-byte unsigned field. -/
def r1 : Reader Nat := readUnsigned 1

/-- A 2-byte unsigned field. -/
def r2 : Reader Nat := readUnsigned 2

/-- A 3-byte unsigned field. -/
def r3 : Reader Nat := readUnsigned 3

/-- A byte read as true or false; a byte other than 0 and 1 is the implementation's (assumption log 3). -/
def flagOf (b : Byte) : Bool := if b = 1 then true else if b = 0 then false else Config.oddFlag b

/-- A true/false field. -/
def rFlag : Reader Bool := do
  let b ← readByte
  return flagOf b

/-- An optional field: its presence byte, then the field when it is present. -/
def rOpt {α : Type} (r : Reader α) : Reader (Option α) := do
  let present ← rFlag
  if present then
    let x ← r
    return some x
  else return none

/-- A field coded by a list of names in the order of their codes, from 1. -/
def codedIn {α : Type} (names : List α) (code : Nat) : Coded α :=
  match code with
  | 0 => .unknown 0
  | k + 1 =>
    match names[k]? with
    | some a => .named a
    | none => .unknown (k + 1)

/-- A 1-byte coded name. -/
def rCoded {α : Type} (names : List α) : Reader (Coded α) := do
  let k ← r1
  return codedIn names k

/-- A set of light circuits as a 2-byte mask, bit c − 1 for circuit c. Bits 12 to 15 name no circuit and are not
read (DESIGN CHOICE, assumption log 50). -/
def circuitsOf (mask : Nat) : List Circuit := setOf (fun c => mask.testBit c.val)

/-- A set of light circuits. -/
def rCircuits : Reader (List Circuit) := do
  let m ← r2
  return circuitsOf m

/-- A ramp of two bytes; 0xFFFF is DEFAULT (R195). -/
def rRamp : Reader (Option Nat) := do
  let m ← r2
  return if m = 65535 then none else some m

/-- One show step of 6 bytes: the kind's reading of the five parameter bytes (R195). The bytes that a kind does
not use are not read, whatever they hold (DESIGN CHOICE, assumption log 51). -/
def stepOf (kind : Nat) (p1 p2 p3 p4 p5 : Byte) : ShowStep :=
  let w := fun (a b : Byte) => a.toNat * 256 + b.toNat
  let ramp := fun (a b : Byte) => if w a b = 65535 then none else some (w a b)
  match kind with
  | 1 => .scene (circuitsOf (w p1 p2))
  | 2 => .nozzle p1.toNat (w p2 p3) (ramp p4 p5)
  | 3 => .light p1.toNat (w p2 p3) (ramp p4 p5)
  | 4 => .rampDefault (w p1 p2)
  | 5 => .wait (p1.toNat * 65536 + w p2 p3)
  | 6 => .save
  | 7 => .restore
  | 8 => .mark
  | 9 => .repeatLoop p1.toNat
  | 10 => .sceneEnd
  | k => .unknown k

/-- One show step. -/
def rStep : Reader ShowStep := do
  let k ← readByte
  let p1 ← readByte
  let p2 ← readByte
  let p3 ← readByte
  let p4 ← readByte
  let p5 ← readByte
  return stepOf k.toNat p1 p2 p3 p4 p5

/-- A given number of values read one after another. -/
def rMany {α : Type} (r : Reader α) : Nat → Reader (List α)
  | 0 => pure []
  | n + 1 => do
    let x ← r
    let xs ← rMany r n
    return x :: xs

/-- The steps of a SHOW_APPEND body: the step count, then the steps (R195). -/
def rSteps : Reader (List ShowStep) := do
  let n ← r1
  rMany rStep n

/-- The watts of the sixteen pump steps: a group preceded by its number of entries, which is 16
(assumption log 8). -/
def rCurve : Reader (Vector Nat 16) := do
  let n ← r1
  let l ← rMany r2 16
  if h : n = 16 ∧ l.length = 16 then return ⟨⟨l⟩, h.2⟩ else failure

/-- The fields of a body that has none. -/
def rNone : Reader Unit := pure ()

/-- The whole of a body read by a reader: bytes missing or left over are a wrong length (R185). -/
def readBody {α : Type} (r : Reader α) (bytes : List Byte) : Body α :=
  match r bytes with
  | some (a, []) => .fields a
  | _ => .wrongLength

/-! ### Request bodies (R195: the fields in the order in which the request's rule names them) -/

def rZoneKind : Reader (Coded ZoneKind) := rCoded [.lawn, .path, .pond, .bed, .keepout]

def rSourceKind : Reader (Coded SourceKind) := rCoded [.mower, .motion, .wind, .rain, .dusk]

def rBinding : Reader (Coded Binding) := rCoded [.a, .b, .both]

def rMerit : Reader (Coded MeritType) := rCoded [.both, .flow, .pressure]

def rChannelType : Reader (Coded ChannelType) := rCoded [.relay, .pwm, .proportional]

/-- The output functions in the order of R172. -/
def allFns : List Fn :=
  [.filterPump, .backwashValve, .topupValve, .fountainPump] ++ allNozzles.map .nozzle ++
    allSlots.map .charger ++ (List.finRange 12).map .light

def rFn : Reader (Coded Fn) := rCoded allFns

/-- Whether the bytes of a UNIT_RESTART body are those of a row's command: the row's own unit by its code
in the order of R193, none of the six units, or a length other than 1. -/
def unitBodyIs (unit : Nat) (body : Body UnitRef) (bytes : List Byte) : Bool :=
  match bytes with
  | [k] =>
    if k.toNat = unit then body = .fields .thisUnit
    else if k.toNat = 0 ∨ 6 < k.toNat then body = .fields .noSuchUnit
    else false
  | _ => body = .wrongLength

def rTimeSet : Reader TimeSet := do return ⟨← r2, ← r3⟩

/-- The report mask, 4 bytes (R195). -/
def rMask : Reader Word32 := do return BitVec.ofNat 32 (← readUnsigned 4)

def rMapFill : Reader MapFill := do return ⟨← r1, ← r1, ← r1, ← r1, ← r1⟩

def rZoneSet : Reader ZoneSet := do
  return ⟨← r1, ← rZoneKind, ← r1, ← r1, ← rOpt r1, ← rOpt r1, ← rFlag, ← r2⟩

def rPaged : Reader PagedGet := do return ⟨← r1, ← r1⟩

/-- CELLS_GET's body: the row, the first column, the last column and the page. R1 names a row and a span of columns
and no fields for the span (DESIGN CHOICE, assumption log 63). -/
def rCellsGet : Reader CellsGet := do return ⟨← r1, ← r1, ← r1, ← r1⟩

def rSourceSet : Reader SourceSet := do return ⟨← r1, ← rSourceKind, ← rBinding⟩

def rCalibrateStake : Reader CalibrateStake := do return ⟨← r1, ← r2, ← r2, ← r1⟩

def rFleetSet : Reader FleetSet := do return ⟨← r1, ← r1, ← r2, ← r1, ← r1, ← r1⟩

def rPlanSet : Reader PlanSet := do return ⟨← r1, ← r1, ← r2, ← r2, ← r2⟩

def rLevels : Reader WaterLevelsSet := do return ⟨← r2, ← r2, ← r2, ← r2⟩

def rTopup : Reader TopupSet := do return ⟨← r1, ← r1⟩

def rFilterSet : Reader FilterSet := do
  return ⟨← r2, ← r2, ← r2, ← r2, ← rMerit, ← r1, ← r1, ← r2, ← r1, ← r2, ← r1, ← r1⟩

def rPumpCurve : Reader PumpCurveSet := do return ⟨← rCurve, ← r1, ← r2⟩

def rNozzleSet : Reader NozzleSet := do return ⟨← r2, ← r1⟩

/-- The nozzles of a SHOW_SET: a group preceded by its number of entries, which is 4 (assumption log 8). -/
def rNozzles : Reader (ByNozzle NozzleSet) := do
  let n ← r1
  if n = 4 then return ⟨← rNozzleSet, ← rNozzleSet, ← rNozzleSet, ← rNozzleSet⟩ else failure

def rShowSet : Reader ShowSet := do return ⟨← r2, ← r2, ← rNozzles⟩

def rLightSet : Reader LightSet := do
  return ⟨← r1, ← rFlag, ← r2, ← r2, ← r2, ← r2, ← r2, ← r2, ← r2, ← r2, ← r2⟩

def rLightSchedule : Reader LightScheduleSet := do return ⟨← r2, ← r2⟩

def rMotionMap : Reader MotionMapSet := do return ⟨← r1, ← rOpt r1, ← rCircuits⟩

def rLightManual : Reader LightManual := do return ⟨← r1, ← rOpt r2⟩

def rSupplySet : Reader SupplySet := do return ⟨← r2, ← r1, ← r2⟩

def rChannelSet : Reader ChannelSet := do return ⟨← r1, ← rChannelType, ← rOpt rFn, ← rOpt r1, ← r2⟩

/-! ### Field frames (R19, R20, R195) -/

/-- The seven frame kinds with the payload fields of each, as R20 reads them. -/
inductive Payload
  | position (rawX rawY : Int) (battery echo : Nat) (lifted docked : Bool)
  | obstacle (rawX rawY : Int)
  | mowerFault (code : Nat)
  | motion
  | wind (speed : Nat)
  | rain (wet : Bool)
  | dusk (lux : Nat)
  deriving DecidableEq, Repr

/-- A field frame whose integrity test has passed. -/
structure FieldFrame where
  source : Nat
  sequence : Nat
  kind : Nat
  fresh : Bool
  payload : List Byte
  deriving DecidableEq, Repr

/-- A signed 16-bit value from two bytes. -/
def signed16 (hi lo : Byte) : Int := (hi ++ lo : BitVec 16).toInt

/-- The payload size of a frame kind code; a code that is none of the seven needs none (R20). -/
def payloadSize : Nat → Nat
  | 1 => 7
  | 2 => 4
  | 3 => 1
  | 4 => 0
  | 5 => 2
  | 6 => 1
  | 7 => 2
  | _ => 0

/-- The source kind that sends a frame kind code (R20). -/
def senderOf : Nat → Option SourceKind
  | 1 => some .mower
  | 2 => some .mower
  | 3 => some .mower
  | 4 => some .motion
  | 5 => some .wind
  | 6 => some .rain
  | 7 => some .dusk
  | _ => none

/-- The integrity test of R21 on the bytes of a frame of 7 to 31 bytes, less the damage mark: the frame
where it passes. -/
def parseFieldFrame (bytes : List Byte) : Option FieldFrame :=
  match bytes with
  | source :: sHi :: sLo :: kind :: len :: rest =>
    let n := len.toNat
    let covered := bytes.take (bytes.length - 2)
    let crc := bytes.drop (bytes.length - 2)
    let code := kind.toNat % 128
    if n ≤ 22 ∧ bytes.length = 7 + n ∧ payloadSize code ≤ n ∧ crc = crcBytes (crc16 covered) then
      some ⟨source.toNat, sHi.toNat * 256 + sLo.toNat, code, kind.msb, rest.take n⟩
    else none
  | _ => none

/-- The payload fields of an accepted frame as R20 reads them; bytes beyond the kind's payload size are
not read. -/
def FieldFrame.read (f : FieldFrame) : Option Payload :=
  match f.kind, f.payload with
  | 1, xHi :: xLo :: yHi :: yLo :: battery :: echo :: flags :: _ =>
    some (.position (signed16 xHi xLo) (signed16 yHi yLo) (min 100 battery.toNat) echo.toNat
      (flags.getLsbD 2) (flags.getLsbD 3))
  | 2, xHi :: xLo :: yHi :: yLo :: _ => some (.obstacle (signed16 xHi xLo) (signed16 yHi yLo))
  | 3, code :: _ => some (.mowerFault (if code = 0 then 255 else code.toNat))
  | 4, _ => some .motion
  | 5, hi :: lo :: _ => some (.wind (min 600 (hi.toNat * 256 + lo.toNat)))
  | 6, v :: _ => some (.rain (v ≠ 0))
  | 7, hi :: lo :: _ => some (.dusk (hi.toNat * 256 + lo.toNat))
  | _, _ => none

end Sys2Proof.Machine
end

