-- ==== Sys2Proof/Machine/FieldLines.lean ====
section
/-! DEFINITION. Field Lines: the receivers, the classes of frames, the duplicate window, the counters,
and the transmit queue (R18–R36). -/

namespace Sys2Proof.Machine

/-! ### Receivers (R18) -/

/-- A byte taken by a receiver: the first byte starts a frame, the first 31 bytes are kept, every byte is
counted, a stop-bit error marks the frame damaged (R18). -/
def FieldRx.take (r : FieldRx) (byte : Byte) (stopError : Bool) : FieldRx :=
  let r := if r.gathering then r else FieldRx.idle
  ⟨true, r.count + 1, if r.kept.length < 31 then r.kept ++ [byte] else r.kept, r.damaged || stopError⟩

/-! ### Classes and counters (R21, R30) -/

/-- The eight classes of a frame (R21). -/
inductive FrameClass | runt | oversize | badCrc | unknownSource | wrongLine | duplicate | stale | good
  deriving DecidableEq, Repr

/-- The limit of a field counter (R30). -/
def fieldCounterLimit : Nat := 4294967295

/-- A frame counts RECEIVED and its class counter together (R30). -/
def LineCounters.count (c : LineCounters) (cls : FrameClass) : LineCounters :=
  let up := bump fieldCounterLimit
  let c := { c with received := up c.received }
  match cls with
  | .runt => { c with runt := up c.runt }
  | .oversize => { c with oversize := up c.oversize }
  | .badCrc => { c with badCrc := up c.badCrc }
  | .unknownSource => { c with unknownSource := up c.unknownSource }
  | .wrongLine => { c with wrongLine := up c.wrongLine }
  | .duplicate => { c with duplicate := up c.duplicate }
  | .stale => { c with stale := up c.stale }
  | .good => { c with good := up c.good }

/-- A frame's class counted on the line it came on (R30). -/
def FieldUnit.count (f : FieldUnit) (l : Line) (cls : FrameClass) : FieldUnit :=
  match l with
  | .a => { f with live := { f.live with lineA := f.live.lineA.count cls } }
  | .b => { f with live := { f.live with lineB := f.live.lineB.count cls } }

/-! ### The duplicate window (R26, R27) -/

/-- The forward distance from N to s (2.4). -/
def forward (n s : Nat) : Nat := (s + 65536 - n % 65536) % 65536

/-- A frame without the fresh flag meets the window (R26). -/
def Window.takePlain (w : Window) (s : Nat) : FrameClass × Window :=
  match w.newest with
  | none => (.good, ⟨some s, [s], none⟩)
  | some n =>
    if 1 ≤ forward n s ∧ forward n s ≤ 32767 then
      (.good, ⟨some s, w.accepted.filter (fun t => forward t s ≤ 31) ++ [s], none⟩)
    else if forward s n ≤ 31 then
      if w.accepted.contains s then (.duplicate, w) else (.good, { w with accepted := w.accepted ++ [s] })
    else (.stale, w)

/-- A fresh frame meets the window (R27). -/
def Window.takeFresh (w : Window) (s : Nat) : FrameClass × Window :=
  if w.fresh = some s ∧ w.accepted.contains s then (.duplicate, w) else (.good, ⟨some s, [s], some s⟩)

/-- Test 6: the class that the window gives a frame, and the window after it (R26, R27). -/
def Window.take (w : Window) (s : Nat) (fresh : Bool) : FrameClass × Window :=
  if fresh then w.takeFresh s else w.takePlain s

/-! ### Classification (R21, R22) -/

/-- Whether a binding takes frames from a line (R22). -/
def bindingTakes : Binding → Line → Bool
  | .a, .a => true
  | .a, .b => false
  | .b, .a => false
  | .b, .b => true
  | .both, _ => true

/-- The outcome of classifying a frame: its class, and for a good frame its source, the source's table
entry as it then stands, and the frame. -/
structure Classified where
  cls : FrameClass
  good : Option (SourceId × Source × FieldFrame)
  deriving DecidableEq, Repr

/-- Tests 4 to 6 of a frame that passed the integrity test, with the window written for a duplicate or
good frame (R21, R22). -/
def FieldUnit.classifyParsed (f : FieldUnit) (l : Line) (fr : FieldFrame) (secs : Nat) :
    FieldUnit × Classified :=
  match index? 40 fr.source with
  | none => (f, ⟨.unknownSource, none⟩)
  | some i =>
    match tget f.sources i with
    | none => (f, ⟨.unknownSource, none⟩)
    | some src =>
      if senderOf fr.kind ≠ some src.cfg.kind then (f, ⟨.unknownSource, none⟩)
      else if bindingTakes src.cfg.binding l = false then (f, ⟨.wrongLine, none⟩)
      else
        let r := src.window.take fr.sequence fr.fresh
        if r.1 = .good then
          let src := { src with lastHeard := some secs, window := r.2 }
          ({ f with sources := tset f.sources i (some src) }, ⟨.good, some (i, src, fr)⟩)
        else (f, ⟨r.1, none⟩)

/-- The six tests in order (R21). -/
def FieldUnit.classify (f : FieldUnit) (l : Line) (r : FieldRx) (secs : Nat) : FieldUnit × Classified :=
  if r.count < 7 then (f, ⟨.runt, none⟩)
  else if 31 < r.count then (f, ⟨.oversize, none⟩)
  else if r.damaged then (f, ⟨.badCrc, none⟩)
  else
    match parseFieldFrame r.kept with
    | none => (f, ⟨.badCrc, none⟩)
    | some fr => f.classifyParsed l fr secs

/-- The 2 ms gap ends a frame: it is classified and counted, and the receiver is idle again (R18, R21). -/
def FieldUnit.endFrame (f : FieldUnit) (l : Line) (secs : Nat) : FieldUnit × Classified :=
  let r := f.rx.get l
  let out := { f with rx := f.rx.put l FieldRx.idle }.classify l r secs
  (out.1.count l out.2.cls, out.2)

/-! ### The transmit queue (R32–R34) -/

/-- STOP is URGENT, the other kinds NORMAL (R32). -/
def OrderKind.urgent : OrderKind → Bool
  | .stop => true
  | .goLane _ => false
  | .hold => false
  | .resume => false
  | .returnHome => false

/-- How many orders the queue holds, the one in flight included (R33). -/
def Transmit.size (t : Transmit) : Nat := t.inFlight.toList.length + t.urgent.length + t.normal.length

/-- The transmitter begins to send an order: the link sequence is written into it and counts on (R32). -/
def Transmit.send (t : Transmit) (o : Order) (now : Nat) : Transmit :=
  { t with inFlight := some ⟨o, t.linkSeq, now + o.kind.airTime⟩, linkSeq := (t.linkSeq + 1) % 65536 }

/-- An idle transmitter with orders waiting begins the first of them (R34). -/
def Transmit.begin (t : Transmit) (now : Nat) : Transmit :=
  match t.inFlight, t.urgent, t.normal with
  | none, o :: l, _ => { t with urgent := l }.send o now
  | none, [], o :: l => { t with normal := l }.send o now
  | none, [], [] => t
  | some _, _, _ => t

/-- An order placed at the end of its class, and begun at once on an idle transmitter (R33). -/
def Transmit.place (t : Transmit) (o : Order) (now : Nat) : Transmit :=
  let t := if o.kind.urgent then { t with urgent := t.urgent ++ [o] } else { t with normal := t.normal ++ [o] }
  t.begin now

/-- A NORMAL order dropped (R30). -/
def FieldUnit.dropNormal (f : FieldUnit) : FieldUnit :=
  { f with live := { f.live with droppedNormal := bump fieldCounterLimit f.live.droppedNormal } }

/-- An URGENT order dropped (R30). -/
def FieldUnit.dropUrgent (f : FieldUnit) : FieldUnit :=
  { f with live := { f.live with droppedUrgent := bump fieldCounterLimit f.live.droppedUrgent } }

/-- The arrival of an order (R33). -/
def FieldUnit.arrive (f : FieldUnit) (o : Order) (now : Nat) : FieldUnit :=
  if f.tx.size < 16 then { f with tx := f.tx.place o now }
  else if o.kind.urgent then
    if f.tx.normal.isEmpty then f.dropUrgent
    else { f.dropNormal with tx := { f.tx with normal := f.tx.normal.dropLast }.place o now }
  else f.dropNormal

/-- Whether the queue holds an order to a source with a number, waiting or in flight (R65). -/
def Transmit.holds (t : Transmit) (dest : SourceId) (number : Nat) : Bool :=
  (t.inFlight.toList.map Flight.order ++ t.urgent ++ t.normal).any
    (fun o => decide (o.dest = dest ∧ o.number = number))

/-- An order's air time ends: it leaves the queue, is counted, and the next one begins (R34). -/
def FieldUnit.airTimeEnd (f : FieldUnit) (now : Nat) : FieldUnit :=
  match f.tx.inFlight with
  | none => f
  | some x =>
    let live := if x.order.kind.urgent then
        { f.live with sentUrgent := bump fieldCounterLimit f.live.sentUrgent }
      else { f.live with sentNormal := bump fieldCounterLimit f.live.sentNormal }
    { f with live := live, tx := { f.tx with inFlight := none }.begin now }

/-- The FIELD restart (R36): receivers idle, windows empty, the transmit queue emptied and an order in
flight cut off. -/
def FieldUnit.restart (f : FieldUnit) : FieldUnit :=
  { f with
    rx := ⟨FieldRx.idle, FieldRx.idle⟩,
    sources := f.sources.map (Option.map (fun s => { s with window := Window.empty })),
    tx := { Transmit.empty with linkSeq := f.tx.linkSeq } }

/-- COUNTERS_CAPTURE (R31): the live counters into the capture set, then 0; the span starts afresh. -/
def FieldUnit.captureCounters (f : FieldUnit) (secs : Nat) : FieldUnit :=
  { f with capture := f.live, live := FieldCounters.zero, captureFrom := secs }

end Sys2Proof.Machine
end

