-- ==== Sys2Proof/Machine/Lighting.lean ====
section
/-! DEFINITION. The Light Unit's shared operations: requests, target, asks, cap, fade, lamp faults
(R150–R165). -/

namespace Sys2Proof.Machine

/-- A circuit record. -/
def Bench.lamp (b : Bench) (c : Circuit) : LampCircuit := tget b.lights.circuits c

/-- Write a circuit record. -/
def Bench.setLamp (b : Bench) (c : Circuit) (x : LampCircuit) : Bench :=
  { b with lights := { b.lights with circuits := tset b.lights.circuits c x } }

/-- The circuits in ascending order. -/
def allCircuits : List Circuit := List.finRange 12

/-- A slot's contribution: the larger of its present and held levels (R155). -/
def Contribution.level (x : Contribution) : Nat :=
  max (x.present.getD 0) (match x.held with
    | some h => h.level
    | none => 0)

/-- The ESCORT request of a circuit (R155). -/
def LampCircuit.escort (x : LampCircuit) (d : DuskState) : Nat :=
  if x.cfg.inUse ∧ d = .night then
    max x.escorts.s0.level (max x.escorts.s1.level x.escorts.s2.level)
  else 0

/-- A circuit's target (R158). -/
def LampCircuit.target (x : LampCircuit) (d : DuskState) : Nat :=
  if x.cfg.inUse then
    match x.shows with
    | some l => l
    | none => max (max x.schedule x.motion) (max (x.escort d) (x.manual.getD 0))
  else 0

/-- FAULT_SHORT, whatever the cause. -/
def LampState.isShort : LampState → Bool
  | .faultShort _ => true
  | _ => false

/-- A circuit's SAFETY and AMBIENT asks (R158). -/
def LampCircuit.asks (x : LampCircuit) (d : DuskState) : Nat × Nat :=
  if x.state.isShort then (0, 0)
  else
    let ask := ceilDiv (x.cfg.ratedWatts * x.target d) 1000
    let safety := min ask (ceilDiv (x.cfg.ratedWatts * max (x.escort d) x.motion) 1000)
    (safety, ask - safety)

/-- Post a circuit's asks (R158). -/
def Bench.postLamp (b : Bench) (c : Circuit) : Bench :=
  let a := (b.lamp c).asks b.lights.dusk
  b.postAsk (lightLoad c) a.1 a.2

/-- The level that a circuit's grants pay for (R159). -/
def Bench.lampCap (b : Bench) (c : Circuit) : Nat :=
  let l := b.load (lightLoad c)
  min 1000 ((l.grantA + l.grantB) * 1000 / (b.lamp c).cfg.ratedWatts)

/-- The state that follows the output (R159). -/
def LampState.follow (s : LampState) (output : Nat) : LampState :=
  match s with
  | .off => if 0 < output then .lit else .off
  | .lit => if output = 0 then .off else .lit
  | s => s

/-- Set a circuit's output and carry it to its channel (R159). -/
def Bench.setOutput (b : Bench) (c : Circuit) (level : Nat) : Bench :=
  (b.setLamp c { b.lamp c with output := level, state := (b.lamp c).state.follow level }).carry (.light c)

/-- A new grant: an output above the new cap becomes the cap (R159). -/
def Bench.lampGrant (b : Bench) (c : Circuit) : Bench :=
  if b.lampCap c < (b.lamp c).output then b.setOutput c (b.lampCap c) else b

/-- One fade step of an output toward its goal (R159). -/
def fadeToward (goal step output : Nat) : Nat :=
  if output < goal then min goal (output + step) else max goal (output - step)

/-- The fade of a circuit at a light tick (R159); a circuit not in use or FAULT_SHORT does not move. -/
def Bench.fadeLamp (b : Bench) (c : Circuit) : Bench :=
  let x := b.lamp c
  if x.cfg.inUse = true ∧ x.state.isShort = false then
    b.setOutput c (fadeToward (min (x.target b.lights.dusk) (b.lampCap c)) (x.cfg.fadeRate / 10) x.output)
  else b

/-- Post LIGHT_FAULT with a circuit's state and current. A circuit that no channel carries has no current;
the report then holds a free value (assumption log 4). -/
def Bench.postLightFault (b : Bench) (c : Circuit) : Bench :=
  match b.power.fnCurrent (.light c) with
  | some i => b.post (.lightFault c (b.lamp c).state i)
  | none =>
    { b with freeDrawn := b.freeDrawn + 1 }.post
      (.lightFault c (b.lamp c).state (Config.unsensedCurrent b.freeDrawn).val)

/-- A circuit becomes FAULT_SHORT, or takes the cause TRIP (R161). -/
def Bench.shortLamp (b : Bench) (c : Circuit) (cause : ShortCause) : Bench :=
  if (b.lamp c).state = .faultShort .trip then b
  else
    let b := b.setLamp c { b.lamp c with state := .faultShort cause, output := 0, openCount := 0 }
    ((b.carry (.light c)).postLamp c).postLightFault c

/-- LU's judgement of a lamp from its channel's current at a light tick (R160, R161). Without a channel
there is no current, and the tick raises no count (assumption log 9). A current above the short limit in FAULT_OPEN is
taken as the short alone, with one report (DESIGN CHOICE, assumption log 80). -/
def Bench.judgeLamp (b : Bench) (c : Circuit) : Bench :=
  let x := b.lamp c
  match b.power.fnCurrent (.light c) with
  | none => b.setLamp c { x with openCount := 0 }
  | some i =>
    match x.state with
    | .faultShort _ => b
    | .faultOpen =>
      if x.cfg.shortLimit < i then b.shortLamp c .short
      else if x.cfg.openThreshold ≤ i then
        (b.setLamp c { x with state := if x.output = 0 then .off else .lit, openCount := 0 }).postLightFault c
      else b
    | .off | .lit =>
      if x.cfg.shortLimit < i then b.shortLamp c .short
      else if 100 ≤ x.output ∧ i < x.cfg.openThreshold then b.setLamp c { x with openCount := bump 20 x.openCount }
      else b.setLamp c { x with openCount := 0 }

/-- The SCHEDULE request of a circuit (R153). -/
def CircuitCfg.scheduled (x : CircuitCfg) (d : DuskState) (late : Bool) : Nat :=
  match d with
  | .day => 0
  | .dusk => x.duskLevel
  | .night => if late then x.lateLevel else x.nightLevel

/-- Form a circuit's SCHEDULE request and asks afresh (R153, R158). A circuit out of use has a SCHEDULE too, which
its target and asks leave out (DESIGN CHOICE, assumption log 61). -/
def Bench.formSchedule (b : Bench) (c : Circuit) : Bench :=
  (b.setLamp c { b.lamp c with schedule := (b.lamp c).cfg.scheduled b.lights.dusk b.inLate }).postLamp c

/-- Form every circuit's SCHEDULE request afresh (R153). -/
def Bench.formSchedules (b : Bench) : Bench := allCircuits.foldl Bench.formSchedule b

/-- A MOTION request with its hold, or its end (R154). -/
def Bench.setMotion (b : Bench) (c : Circuit) (level : Nat) (expiry : Option Nat) : Bench :=
  (b.setLamp c { b.lamp c with motion := level, motionExpiry := expiry }).postLamp c

/-- The SHOW request of a circuit: SE's level, or absent (R157). -/
def Bench.setShow (b : Bench) (c : Circuit) (level : Option Nat) : Bench :=
  (b.setLamp c { b.lamp c with shows := level }).postLamp c

end Sys2Proof.Machine
end

