-- ==== Sys2Proof/Machine/Chain.lean ====
section
/-! DEFINITION. The nozzle height chain of the Show Engine (R143–R145) and the dry flag. -/

namespace Sys2Proof.Machine

/-- Write a nozzle's heights. -/
def Bench.setHeights (b : Bench) (n : Nozzle) (h : Heights) : Bench :=
  { b with shows := { b.shows with heights := nput b.shows.heights n h } }

/-- Write whether SE holds a nozzle's splash mark. -/
def Bench.setHeld (b : Bench) (n : Nozzle) (v : Bool) : Bench :=
  { b with shows := { b.shows with held := nput b.shows.held n v } }

/-- A nozzle's height after wind, h1 (R143). -/
def ShowUnit.windHeight (u : ShowUnit) (n : Nozzle) : Nat := (nget u.ctx.nozzles n).value * u.windFactor / 1000

/-- The running time at which a nozzle's mark cleared now dries off (R12). -/
def Bench.dryOffExpiry (b : Bench) (n : Nozzle) : Nat := b.now + nget b.shows.cfg.dryOff n * 60000

/-- SE asks GM to clear a nozzle's splash mark and no longer holds it (R12, R143). -/
def Bench.dropSplash (b : Bench) (n : Nozzle) : Bench :=
  { b with ground := b.ground.clearSplash n (b.dryOffExpiry n) }.setHeld n false

/-- One nozzle's h1, splash mark and h2 (R143). -/
def Bench.splashNozzle (b : Bench) (n : Nozzle) : Bench :=
  let h1 := b.shows.windHeight n
  let hs := nget b.shows.cfg.threshold n
  let old := nget b.shows.heights n
  if hs < h1 then
    if nget b.shows.held n then b.setHeights n { old with h1 := h1, h2 := h1 }
    else if b.ground.splashGranted n then
      ({ b with ground := b.ground.requestSplash n }.setHeld n true).setHeights n { old with h1 := h1, h2 := h1 }
    else b.setHeights n { old with h1 := h1, h2 := hs }
  else if nget b.shows.held n then (b.dropSplash n).setHeights n { old with h1 := h1, h2 := h1 }
  else b.setHeights n { old with h1 := h1, h2 := h1 }

/-- A nozzle's h2 as the fountain ask counts it: 0 while its channel is tripped (R144). -/
def Bench.askedHeight (b : Bench) (n : Nozzle) : Nat :=
  if b.power.fnTripped (.nozzle n) then 0 else (nget b.shows.heights n).h2

/-- The fountain ask (R144). -/
def Bench.fountainAsk (b : Bench) : Nat :=
  ceilDiv (b.water.cfg.fullWatts *
    max (max (b.askedHeight .n1) (b.askedHeight .n2)) (max (b.askedHeight .n3) (b.askedHeight .n4))) 1000

/-- The first half of the chain: h1, splash and h2 of every nozzle, and the fountain ask posted. -/
def Bench.chainFront (b : Bench) : Bench :=
  let b := allNozzles.foldl Bench.splashNozzle b
  b.postAsk fountainLoad b.fountainAsk 0

/-- The power cap that the fountain grant gives (R144). -/
def Bench.fountainCap (b : Bench) : Nat := (b.load fountainLoad).grantA * 1000 / b.water.cfg.fullWatts

/-- One nozzle's h3 and e (R144, R145). -/
def Bench.capNozzle (b : Bench) (n : Nozzle) : Bench :=
  let h := nget b.shows.heights n
  let h3 := min h.h2 b.fountainCap
  b.setHeights n { h with h3 := h3, e := if b.withheld || b.power.fnTripped (.nozzle n) then 0 else h3 }

/-- The second half of the chain: h3 and e of every nozzle with the grant in hand, and the levels of the
nozzles and the fountain pump set (R144, R145). -/
def Bench.chainBack (b : Bench) : Bench :=
  let b := allNozzles.foldl Bench.capNozzle b
  let b := allNozzles.foldl (fun b n => b.carry (.nozzle n)) b
  b.carry .fountainPump

/-- The height chain recomputed at a change of its inputs. Where the ask changes, the second half waits
for PW's answer, which the settling of the same step brings (R144). -/
def Bench.chain (b : Bench) : Bench :=
  let b := b.chainFront
  if (b.load fountainLoad).asked then b else b.chainBack

/-- SE's answer to a fountain grant: the chain recomputed with the grant in hand (R144). -/
def Bench.fountainGrant (b : Bench) : Bench := b.chainFront.chainBack

/-- The dry flag follows the supply; a change posts SHOW_DRY and recomputes the chain (R145). -/
def Bench.noteDry (b : Bench) : Bench :=
  if b.shows.dry = b.withheld then b
  else
    let b := { b with shows := { b.shows with dry := b.withheld } }
    (b.post (.showDry b.withheld)).chain

end Sys2Proof.Machine
end

