-- ==== Sys2Proof/Machine/Water.lean ====
section
/-! DEFINITION. The Water Unit's shared operations: the fountain supply, the top-up valve, and the filter
pump with its search, lock, faults and grants (R102–R127). A backwash start reaches the mowers and stands
with the planner's operations. -/

namespace Sys2Proof.Machine

/-- Replace the Water Unit. -/
def Bench.setWater (b : Bench) (w : WaterUnit) : Bench := { b with water := w }

/-! ### The fountain supply (R124) -/

/-- The causes whose conditions hold now (R124). -/
def Bench.supplyCauses (b : Bench) : SupplyCauses :=
  ⟨b.water.supplyLow, decide (b.water.filter.state = .backwash), b.power.fnTripped .fountainPump⟩

/-- Re-form the set of causes: a change is reported; a change of the supply itself switches the fountain
pump, calls for an allocation and reaches SE's dry flag (R124, R145). -/
def Bench.reformSupply (b : Bench) : Bench :=
  let c := b.supplyCauses
  if c = b.water.causes then b
  else
    let was := b.withheld
    let b := (b.setWater { b.water with causes := c }).post (.fountainSupply c)
    if b.withheld = was then b else (b.callAllocation.carry .fountainPump).noteDry

/-! ### The top-up valve (R104, R105) -/

/-- Move the top-up valve: its state, its level and its SAFETY ask (R104). -/
def Bench.moveTopup (b : Bench) (s : TopupState) : Bench :=
  let b := (b.setWater { b.water with topup := s }).carry .topupValve
  let ask := match s with
    | .opened => b.water.cfg.topupWatts
    | .waitPower => b.water.cfg.topupWatts
    | .closed => 0
    | .capped => 0
    | .tripped => 0
  b.postAsk topupLoad ask 0

/-- The daily cap in seconds (R105). -/
def WaterCfg.capSeconds (c : WaterCfg) : Nat := c.capMinutes * 60

/-- The valve becomes CAPPED and the host is told, the cap in seconds as R105 defines it and beside the count in
seconds (R104; DEDUCED, assumption log 48). -/
def Bench.capTopup (b : Bench) : Bench :=
  (b.moveTopup .capped).post (.topupCapped b.water.capCount b.water.cfg.capSeconds)

/-- Demand taken in CLOSED: CAPPED if the cap is used up, otherwise the ask is posted, and PW's answer
opens the valve or leaves it waiting (R104). -/
def Bench.takeDemand (b : Bench) : Bench :=
  if b.water.topup = .closed ∧ b.water.demand = true then
    if b.water.cfg.capSeconds ≤ b.water.capCount then b.capTopup else b.moveTopup .waitPower
  else b

/-- The demand clears (R104). -/
def Bench.endDemand (b : Bench) : Bench :=
  match b.water.topup with
  | .opened => b.moveTopup .closed
  | .waitPower => b.moveTopup .closed
  | .capped => b.moveTopup .closed
  | .closed => b
  | .tripped => b

/-- A grant to the top-up valve (R104). -/
def Bench.topupGrant (b : Bench) : Bench :=
  match b.water.topup with
  | .opened =>
    if (b.load topupLoad).askA ≤ (b.load topupLoad).grantA then b else b.moveTopup .waitPower
  | .waitPower =>
    if (b.load topupLoad).askA ≤ (b.load topupLoad).grantA then b.moveTopup .opened else b
  | .closed => b
  | .capped => b
  | .tripped => b

/-- The cap period ends: the count returns to 0, a CAPPED valve closes and takes up the demand (R105). -/
def Bench.endCapPeriod (b : Bench) : Bench :=
  let b := b.setWater { b.water with capCount := 0 }
  if b.water.topup = .capped then (b.moveTopup .closed).takeDemand else b

/-- The seconds of a cap period while the clock is UNSET (R105). -/
def capPeriod : Nat := 86400

/-- While the clock is UNSET, the running time in ms at which the present cap period ends: the running second count
passes the next multiple of 86,400 counted from power-on or from the last WATER restart (R105). -/
def Bench.capPeriodEnds (b : Bench) : Option Nat :=
  if b.clock.isNone then some ((b.water.capFrom + capPeriod) * 1000) else none

/-- The cap period ends at that multiple, and the next one counts from it (R105). -/
def Bench.passCapPeriod (b : Bench) : Bench :=
  (b.setWater { b.water with capFrom := b.water.capFrom + capPeriod }).endCapPeriod

/-! ### The filter's record (R106, R113) -/

/-- The watts of a pump step; step 0 is off (R107). -/
def WaterCfg.watts (c : WaterCfg) (n : Nat) : Nat :=
  match n with
  | 0 => 0
  | k + 1 => c.curve.toList.getD k 0

/-- The start step of a search (R106). -/
def Filter.startStep (f : Filter) (c : WaterCfg) : Nat := max c.minStep (f.lockedStep.getD c.minStep)

/-- The fresh search record (R113). -/
def Search.fresh (start : Nat) : Search := ⟨start, start, .raising, none, none, 0, 0, none⟩

/-- SEARCHING with a fresh search from the start step; a gate in progress is discarded (R113). -/
def Filter.toSearching (f : Filter) (c : WaterCfg) : Filter :=
  { f with state := .searching, powerLimited := false, marginal := false, limit := none, lockFom := none,
           search := some (Search.fresh (f.startStep c)), monitor := none, gate := none,
           backwashExpiry := none }

/-- STOPPED, STARVED or FAULT: the pump off, a search, lock or gate abandoned, the zero-flow count 0
(R106, R108, R118). -/
def Filter.halted (f : Filter) (s : FilterState) : Filter :=
  { f with state := s, step := 0, powerLimited := false, marginal := false, limit := none, lockFom := none,
           search := none, monitor := none, gate := none, zeroFlow := 0, backwashExpiry := none }

/-- The highest step from `n` down, not below m, whose watts a grant covers; m if none is (R119). -/
def coveredStep (c : WaterCfg) (grant : Nat) : Nat → Nat
  | 0 => c.minStep
  | n + 1 => if n + 1 ≤ c.minStep then c.minStep else if c.watts (n + 1) ≤ grant then n + 1 else coveredStep c grant n

/-- LOCKED on a step, with the monitor's first interval started and the failing count 0 (R115–R117). -/
def Filter.toLocked (f : Filter) (c : WaterCfg) (now step pump : Nat) (fom : Option Int) (limit : Option Limit) :
    Filter :=
  { f with state := .locked, step := pump, lockedStep := some step, powerLimited := limit.isSome,
           marginal := decide (fom.getD 0 < 0), limit := limit, lockFom := fom, search := none, failing := 0,
           monitor := some (now + c.filter.monitorInterval * 1000), gate := none }

/-- The filter's two asks (R107). -/
def WaterUnit.filterAsks (w : WaterUnit) : Nat × Nat :=
  let c := w.cfg
  let m := c.watts c.minStep
  match w.filter.state with
  | .searching =>
    match w.filter.search with
    | some s => (m, c.watts s.candidate - m)
    | none => (m, 0)
  | .locked =>
    match w.filter.limit with
    | some l => (m, c.watts l.step - m)
    | none => (m, c.watts (w.filter.lockedStep.getD c.minStep) - m)
  | .backwash => (m, 0)
  | .fault .noPower => (m, 0)
  | .fault .clogPersists => (0, 0)
  | .fault .noFlow => (0, 0)
  | .fault .channelTrip => (0, 0)
  | .stopped => (0, 0)
  | .starved => (0, 0)

/-- Whether a search waits at Raising for PW's answer (R114). -/
def Filter.raising (f : Filter) : Bool :=
  match f.state, f.search with
  | .searching, some s => s.phase = .raising
  | _, _ => false

/-- Post the filter's asks; a search at Raising waits for the answer even where the ask has not changed
(R107, R114). -/
def Bench.postFilter (b : Bench) : Bench :=
  let b := b.postAsk filterLoad b.water.filterAsks.1 b.water.filterAsks.2
  if b.water.filter.raising then b.callForGrant filterLoad else b

/-- The pump step that FILTER_STATE and WATER_GET give: the candidate while SEARCHING (R106; assumption log 10). -/
def Filter.reportStep (f : Filter) : Nat :=
  match f.state, f.search with
  | .searching, some s => s.candidate
  | _, _ => f.step

/-- Post FILTER_STATE if the state, the cause or a flag differs from an earlier record (R106). -/
def Bench.reportFilter (b : Bench) (old : Filter) : Bench :=
  let f := b.water.filter
  if old.state = f.state ∧ old.powerLimited = f.powerLimited ∧ old.marginal = f.marginal then b
  else b.post (.filterState f.state f.reportStep f.powerLimited f.marginal
    (if f.state = .locked then f.lockFom else none))

/-- Replace the filter's record and carry the pump level and the backwash valve. -/
def Bench.putFilter (b : Bench) (f : Filter) : Bench :=
  ((b.setWater { b.water with filter := f }).carry .filterPump).carry .backwashValve

/-- A change of the filter: record, report, asks. -/
def Bench.moveFilter (b : Bench) (f : Filter) : Bench :=
  ((b.putFilter f).reportFilter b.water.filter).postFilter

/-- The running time at which a drain started now ends (R14). -/
def Bench.drainExpiry (b : Bench) : Nat := b.now + b.water.cfg.filter.drainTime * 60000

/-- The end of a backwash with the filter's next record: the valve closed, the last backwash end set, the
drain started, the supply's cause BACKWASH gone, FILTER_STATE posted (R122). -/
def Bench.endBackwash (b : Bench) (f : Filter) : Bench :=
  let old := b.water.filter
  let b := b.putFilter { f with lastBackwashEnd := some b.now, backwashExpiry := none }
  let b := { b with ground := b.ground.startDrain b.drainExpiry }
  (b.reformSupply.reportFilter old).postFilter

/-- Leave whatever runs for another record: a running backwash ends by R122, anything else moves. -/
def Bench.leaveFor (b : Bench) (f : Filter) : Bench :=
  if b.water.filter.state = .backwash then b.endBackwash f else b.moveFilter f

/-- A search begins from the start step (R113). -/
def Bench.beginSearch (b : Bench) : Bench := b.moveFilter (b.water.filter.toSearching b.water.cfg)

/-- STARVED if the starved flag is set, otherwise SEARCHING from the start step (R108, R120, R123). -/
def Bench.resumeFilter (b : Bench) : Bench :=
  if b.water.starved then b.moveFilter (b.water.filter.halted .starved) else b.beginSearch

/-! ### Locking (R115, R116) -/

/-- FILTER_MARGINAL for a lock whose FOM is below 0 (R115, R116). -/
def Bench.reportMarginal (b : Bench) (step : Nat) (fom : Option Int) : Bench :=
  match fom with
  | some x => if x < 0 then b.post (.filterMarginal step x) else b
  | none => b

/-- The search ends on its best step (R115). -/
def Bench.lockBest (b : Bench) (step : Nat) (fom : Int) : Bench :=
  (b.moveFilter (b.water.filter.toLocked b.water.cfg b.now step step (some fom) none)).reportMarginal step (some fom)

/-- The watts granted to the filter (R107). -/
def Bench.filterGranted (b : Bench) : Nat := (b.load filterLoad).grantA + (b.load filterLoad).grantB

/-- The search ends power-limited (R116). A grant below w(m) covers no step, so the pump gets no step of it. -/
def Bench.lockLimited (b : Bench) (s : Search) : Bench :=
  let c := b.water.cfg
  let step := s.bestStep.getD s.startStep
  let pump := if b.filterGranted < c.watts c.minStep then 0 else coveredStep c b.filterGranted step
  (b.moveFilter (b.water.filter.toLocked b.water.cfg b.now step pump s.bestFom
    (some ⟨s.candidate, .search⟩))).reportMarginal step s.bestFom

/-! ### Grants to the filter (R114, R119, R120) -/

/-- A grant judged in LOCKED: NO_POWER, a new limit, the pump moved, or recovery (R119, R120). -/
def Bench.lockedGrant (b : Bench) : Bench :=
  let c := b.water.cfg
  let f := b.water.filter
  let step := f.lockedStep.getD c.minStep
  let g := b.filterGranted
  if g < c.watts c.minStep then b.moveFilter (f.halted (.fault .noPower))
  else
    match f.limit with
    | some l =>
      if c.watts l.step ≤ g then
        match l.origin with
        | .lock => b.moveFilter { f with powerLimited := false, limit := none, step := step }
        | .search => b.beginSearch
      else b.putFilter { f with step := coveredStep c g step }
    | none =>
      if g < c.watts step then
        b.moveFilter { f with powerLimited := true, limit := some ⟨step, .lock⟩, step := coveredStep c g step }
      else b

/-- Raising answered in full: the pump at the candidate step, SETTLING (R114). -/
def Bench.settleTrial (b : Bench) (s : Search) : Bench :=
  b.putFilter { b.water.filter with
    step := s.candidate,
    search := some { s with phase := .settling, expiry := some (b.now + b.water.cfg.filter.settleTime * 1000) } }

/-- WU's answer to a filter grant, by state (R114, R119, R120, R122). A trial whose grant falls below w(m) meets both
R116 and R120: it first locks power-limited, with that lock's reports, and then becomes FAULT (NO_POWER) (DESIGN
CHOICE, assumption log 47). -/
def Bench.filterGrant (b : Bench) : Bench :=
  match b.water.filter.state with
  | .searching =>
    match b.water.filter.search with
    | none => b
    | some s =>
      if b.filterGranted < b.water.cfg.watts s.candidate then (b.lockLimited s).lockedGrant
      else if s.phase = .raising then b.settleTrial s
      else b
  | .locked => b.lockedGrant
  | .backwash =>
    if b.filterGranted < b.water.cfg.watts b.water.cfg.minStep then
      b.endBackwash (b.water.filter.halted (.fault .noPower))
    else b
  | .fault .noPower =>
    if b.water.cfg.watts b.water.cfg.minStep ≤ (b.load filterLoad).grantA then b.resumeFilter else b
  | .fault .clogPersists => b
  | .fault .noFlow => b
  | .fault .channelTrip => b
  | .stopped => b
  | .starved => b

/-! ### Level samples (R102, R108) -/

/-- The three level flags evaluated against a level (R102). -/
def WaterUnit.withLevel (w : WaterUnit) (level : Nat) : WaterUnit :=
  let l := w.cfg.levels
  { w with level := level,
           starved := levelFlag w.starved l.filterLow (l.filterLow + 10) level,
           supplyLow := levelFlag w.supplyLow l.fountainLow (l.fountainLow + 10) level,
           demand := levelFlag w.demand l.fillOn l.fillOff level }

/-- What a change of the starved flag does to the filter (R108). -/
def Bench.actOnStarved (b : Bench) : Bench :=
  let f := b.water.filter
  match f.state with
  | .searching => if b.water.starved then b.moveFilter (f.halted .starved) else b
  | .locked => if b.water.starved then b.moveFilter (f.halted .starved) else b
  | .backwash => if b.water.starved then b.endBackwash (f.halted .starved) else b
  | .starved => if b.water.starved then b else b.beginSearch
  | .stopped => b
  | .fault _ => b

/-- A level taken: the flags and their effects on the filter, the supply and the valve (R102), in this order (DESIGN
CHOICE, assumption log 81). -/
def Bench.takeLevel (b : Bench) (level : Nat) : Bench :=
  let b := b.setWater (b.water.withLevel level)
  let b := b.actOnStarved.reformSupply
  if b.water.demand then b.takeDemand else b.endDemand

/-! ### Channel notices to WU (R123) -/

/-- FAULT (CHANNEL_TRIP), unless the filter is there already; a running backwash ends (R122, R123). -/
def Bench.tripFilter (b : Bench) : Bench :=
  if b.water.filter.state = .fault .channelTrip then b
  else b.leaveFor (b.water.filter.halted (.fault .channelTrip))

/-- A reset of the filter pump or the backwash valve: FAULT (CHANNEL_TRIP) is left once neither channel is
tripped (R123). -/
def Bench.resetFilterChannel (b : Bench) : Bench :=
  if b.water.filter.state = .fault .channelTrip ∧ b.power.fnTripped .filterPump = false ∧
      b.power.fnTripped .backwashValve = false then b.resumeFilter
  else b

/-- A reset of the top-up valve's channel: CLOSED, and the demand is taken up (R104). -/
def Bench.resetTopup (b : Bench) : Bench :=
  if b.water.topup = .tripped then (b.moveTopup .closed).takeDemand else b

end Sys2Proof.Machine
end

