-- ==== Sys2Proof/Machine/Power.lean ====
section
/-! DEFINITION. The docks' chargers (R69), the settling of an allocation (R171), and channel trips and
resets (R175–R177). -/

namespace Sys2Proof.Machine

/-! ### Mower contexts and chargers (R54, R69) -/

/-- A slot. -/
def Bench.slot (b : Bench) (k : Slot) : FleetSlot := b.fleet.get k

/-- A mower context. -/
def Bench.mower (b : Bench) (k : Slot) : MowerCtx := (b.fleet.get k).ctx

/-- Replace a mower context. -/
def Bench.setMower (b : Bench) (k : Slot) (x : MowerCtx) : Bench :=
  { b with fleet := b.fleet.put k { b.fleet.get k with ctx := x } }

/-- Post MOWER_STATE for a slot (R54). -/
def Bench.reportMower (b : Bench) (k : Slot) : Bench :=
  let x := b.mower k
  b.post (.mowerState k x.state (if x.state.isFaulted then x.faultCode else none) x.battery)

/-- A mower's state or cause set; a change posts MOWER_STATE (R54). -/
def Bench.setMowerState (b : Bench) (k : Slot) (s : MowerState) : Bench :=
  if (b.mower k).state = s then b else (b.setMower k { b.mower k with state := s }).reportMower k

/-- The charger ask (R69). -/
def FleetSlot.chargerAsk (x : FleetSlot) : Nat :=
  match x.ctx.battery with
  | some p => if x.ctx.state.atDock = true ∧ p < 100 then x.cfg.ratedWatts else 0
  | none => 0

/-- Post a charger's ask (R69). -/
def Bench.postCharger (b : Bench) (k : Slot) : Bench := b.postAsk (chargerLoad k) (b.slot k).chargerAsk 0

/-- Set the level of a charger's function: by the grant while CHARGING, otherwise 0 (R69). -/
def Bench.setChargerLevel (b : Bench) (k : Slot) : Bench :=
  let x := b.slot k
  let level := if x.ctx.state = .charging then
      min 1000 ((b.load (chargerLoad k)).grantA * 1000 / x.cfg.ratedWatts) else 0
  { b with fleet := b.fleet.put k { x with chargerLevel := level } }.carry (.charger k)

/-- The test of R69: a docked mower moves between DOCKED and CHARGING by its battery and its grant. -/
def Bench.chargerTest (b : Bench) (k : Slot) : Bench :=
  let x := b.slot k
  let enough : Bool := x.cfg.ratedWatts ≤ (b.load (chargerLoad k)).grantA * 5
  let b :=
    match x.ctx.state, x.ctx.battery with
    | .docked, some p => if p < 100 ∧ enough then b.setMowerState k .charging else b
    | .charging, some p => if p < 100 ∧ enough then b else b.setMowerState k .docked
    | _, _ => b
  b.setChargerLevel k

/-! ### Settling (R171) -/

/-- An owner acts on the grants of one of its loads (R171). -/
def Bench.react (b : Bench) (i : LoadId) : Bench :=
  if i.val = 0 then b.filterGrant
  else if i.val = 1 then b.topupGrant
  else if i.val = 2 then b.fountainGrant
  else if i.val = 3 then b.chargerTest .s0
  else if i.val = 4 then b.chargerTest .s1
  else if i.val = 5 then b.chargerTest .s2
  else b.lampGrant ⟨(i.val - 6) % 12, Nat.mod_lt _ (by decide)⟩

/-- Every answer owed to an owner is marked given. -/
def Bench.markAnswered (b : Bench) : Bench :=
  { b with power := { b.power with
      loads := (List.finRange 18).foldl (fun v i => tset v i { tget v i with asked := false }) b.power.loads } }

/-- One allocation and the owners' actions on it, in ascending load index (R171). -/
def Bench.allocationRound (b : Bench) : Bench :=
  let after := b.allocate
  (toldAfter b after).foldl Bench.react after.markAnswered

/-- Allocations follow one another in the step until no owner's action calls for a further one (R171).
R171 says that they come to an end; the model runs at most the given number (assumption log 11). -/
def Bench.settleFor : Nat → Bench → Bench
  | 0, b => b
  | n + 1, b => if b.power.realloc then Bench.settleFor n b.allocationRound else b

/-- Settle the step's allocations (R171). -/
def Bench.settle (b : Bench) : Bench := b.settleFor 64

/-- The ask, its grant, the test and the level of a charger, at a change of state or battery (R69). -/
def Bench.tendCharger (b : Bench) (k : Slot) : Bench := (b.postCharger k).settle.chargerTest k

/-! ### Trips and resets (R175–R177) -/

/-- A channel record. -/
def Bench.channel (b : Bench) (c : ChannelId) : Channel := tget b.power.channels c

/-- Replace a channel record. -/
def Bench.setChannel (b : Bench) (c : ChannelId) (x : Channel) : Bench :=
  { b with power := { b.power with channels := tset b.power.channels c x } }

/-- The owner's action on a trip notice (R176). -/
def Bench.tripNotice (b : Bench) : Fn → Bench
  | .filterPump => b.tripFilter
  | .backwashValve => if b.water.filter.state = .backwash then b.tripFilter else b
  | .topupValve => b.moveTopup .tripped
  | .fountainPump => b.reformSupply
  | .nozzle _ => b.chain
  | .charger _ => b
  | .light c => b.shortLamp c .trip

/-- The owner's action on a reset notice (R176). -/
def Bench.resetNotice (b : Bench) : Fn → Bench
  | .filterPump => b.resetFilterChannel
  | .backwashValve => b.resetFilterChannel
  | .topupValve => b.resetTopup
  | .fountainPump => b.reformSupply
  | .nozzle _ => b.chain
  | .charger _ => b
  | .light _ => b

/-- Reallocate if a function belongs to a load (R175, R177). -/
def Bench.reallocFor (b : Bench) (f : Fn) : Bench := if (loadOf? f).isSome then b.callAllocation else b

/-- A channel trips (R175): stopped at once, reported, its owner told, the watts shared out again. -/
def Bench.trip (b : Bench) (c : ChannelId) : Bench :=
  let x := b.channel c
  let b := b.setChannel c { x with
    applied := 0, holdExpiry := none, state := .tripped,
    lastSwitch := if x.applied = 0 then x.lastSwitch else some b.now }
  let b := b.post (.channelTrip c x.cfg.function x.current)
  match x.cfg.function with
  | none => b
  | some f => ((b.tripNotice f).reallocFor f).settle

/-- A channel's sample taken: one above the trip current trips a channel that is not TRIPPED (R175). -/
def Bench.senseChannel (b : Bench) (c : ChannelId) : Bench :=
  let x := b.channel c
  if x.state ≠ .tripped ∧ x.cfg.tripCurrent < x.current then b.trip c else b

/-- A TRIPPED channel is reset (R177): IDLE, its owner told, the watts shared out again, and the requested
level as the owner left it taken as one switch request from off. The levels that the owner passes through on the
way are not applied. -/
def Bench.resetChannel (b : Bench) (c : ChannelId) : Bench :=
  let off := fun (x : Channel) =>
    { x with state := .idle, applied := 0, holdExpiry := none, lastSwitch := (b.channel c).lastSwitch }
  let b := b.setChannel c (off (b.channel c))
  let b :=
    match (b.channel c).cfg.function with
    | none => b
    | some f => ((b.resetNotice f).reallocFor f).settle
  b.setChannel c ((off (b.channel c)).judge b.now)

end Sys2Proof.Machine
end

