-- ==== Sys2Proof/Machine/Position.lean ====
section
/-! DEFINITION. The Position Unit's transform, placements, track records, tracker and capture (R37–R50),
and the Light Unit's escort contributions, which follow the track records (R155, R156). -/

namespace Sys2Proof.Machine

/-- Apply a change to the bench inside a garden. -/
def Garden.on (g : Garden) (f : Bench → Bench) : Garden := { g with toBench := f g.toBench }

/-- Settle the step's allocations (R171). -/
def Garden.settle (g : Garden) : Garden := g.on Bench.settle

/-! ### The transform (R37) -/

/-- The exact transform of a raw position (R37). -/
def Coeffs.apply (c : Coeffs) (rx ry : Int) : Int × Int :=
  (Int.fdiv (c.a * rx + c.b * ry + c.c + 32768) 65536, Int.fdiv (c.d * rx + c.e * ry + c.f + 32768) 65536)

/-- Saturation to a signed 32-bit value (R37). -/
def saturate32 (x : Int) : Int := max (-2147483648) (min 2147483647 x)

/-! ### Placement (R38) -/

/-- A coordinate against a side of the garden rectangle and its band: the lookup value and whether it
lies on the edge, or `none` off the map (R38). -/
def lookup1 (size : Nat) (v : Int) : Option (Nat × Bool) :=
  if 0 ≤ v ∧ v < size then some (v.toNat, false)
  else if -100 ≤ v ∧ v < 0 then some (0, true)
  else if (size : Int) ≤ v ∧ v < size + 100 then some (size - 1, true)
  else none

/-- A placement (R38): the saturated garden position, the lookup coordinates and their cell, the zone of
the cell, and the two flags. -/
structure Placement where
  garden : Int × Int
  lookup : Option (Nat × Nat)
  cell : Option CellAddr
  zone : Option ZoneId
  edge : Bool
  offMap : Bool
  deriving DecidableEq, Repr

/-- The placement of a raw position (R37, R38). -/
def Garden.place (g : Garden) (rx ry : Int) : Placement :=
  let p := g.position.coeffs.apply rx ry
  let garden := (saturate32 p.1, saturate32 p.2)
  match lookup1 4800 p.1, lookup1 3200 p.2 with
  | some (x, ex), some (y, ey) =>
    let a := cellOfPosition x y
    ⟨garden, some (x, y), some a, (g.ground.cell a).zone, ex || ey, false⟩
  | _, _ => ⟨garden, none, none, none, false, true⟩

/-! ### The tracker (R41) -/

/-- Progress along a lane as a fraction of 65,535 (R41). -/
def trackerOf (xs ys xe ye x y : Int) : Nat :=
  let dot := (x - xs) * (xe - xs) + (y - ys) * (ye - ys)
  let length := (xe - xs) * (xe - xs) + (ye - ys) * (ye - ys)
  if length = 0 then 0 else (max 0 (min 65535 (Int.fdiv (65535 * dot) length))).toNat

/-- The tracker of a slot from its lane and its held garden position (R41). -/
def Garden.trackerNow (g : Garden) (k : Slot) : Nat :=
  match g.planner.lanes.get k, (g.position.tracks.get k).garden with
  | some l, some p => trackerOf l.startX l.startY l.endX l.endY p.1 p.2
  | _, _ => 0

/-- A track record. -/
def Garden.track (g : Garden) (k : Slot) : Track := g.position.tracks.get k

/-- Replace a track record. -/
def Garden.setTrack (g : Garden) (k : Slot) (t : Track) : Garden :=
  { g with position := { g.position with tracks := g.position.tracks.put k t } }

/-- Compute a slot's tracker afresh (R41). -/
def Garden.retrack (g : Garden) (k : Slot) : Garden := g.setTrack k { g.track k with tracker := g.trackerNow k }

/-! ### Escorts (R155, R156) -/

/-- The escort zone of a slot (R155). -/
def Garden.escortZone (g : Garden) (k : Slot) : Option ZoneId :=
  if (g.mower k).state.supervised = true ∧ (g.track k).cell.isSome then (g.track k).zone else none

/-- The level that a slot's escort zone gives a circuit, where the zone names it (R155). -/
def Garden.escortLevel (g : Garden) (k : Slot) (c : Circuit) : Option Nat :=
  match g.escortZone k with
  | none => none
  | some z => if (g.ground.zone z).cfg.circuit = some c then some (g.ground.zone z).cfg.escort else none

/-- A contribution re-formed against the new escort zone (R156). -/
def Contribution.reform (x : Contribution) (level : Option Nat) (expiry : Nat) : Contribution :=
  match x.present, level with
  | some l, some l' => ⟨some l', if l' < l then some ⟨l, expiry⟩ else x.held⟩
  | some l, none => ⟨none, some ⟨l, expiry⟩⟩
  | none, some l' => ⟨some l', x.held⟩
  | none, none => x

/-- Write a slot's contribution to a circuit and form the circuit's asks afresh (R158). -/
def Bench.setEscort (b : Bench) (k : Slot) (c : Circuit) (x : Contribution) : Bench :=
  (b.setLamp c { b.lamp c with escorts := (b.lamp c).escorts.put k x }).postLamp c

/-- A slot's contributions re-formed during NIGHT (R156); the hold lasts 10 s. -/
def Garden.reformEscort (g : Garden) (k : Slot) : Garden :=
  if g.lights.dusk = .night then
    (g.on (fun b => allCircuits.foldl (fun b c =>
      b.setEscort k c (((b.lamp c).escorts.get k).reform (g.escortLevel k c) (g.now + 10000))) b)).settle
  else g

/-- The contributions formed from the track records at the change to NIGHT, with no held levels (R155). -/
def Garden.formEscorts (g : Garden) : Garden :=
  g.on (fun b => allCircuits.foldl (fun b c =>
    (b.setLamp c { b.lamp c with
      escorts := ⟨⟨g.escortLevel .s0 c, none⟩, ⟨g.escortLevel .s1 c, none⟩, ⟨g.escortLevel .s2 c, none⟩⟩ }).postLamp c) b)

/-- Every contribution removed at the change from NIGHT (R155). -/
def Bench.dropEscorts (b : Bench) : Bench :=
  allCircuits.foldl (fun b c =>
    (b.setLamp c { b.lamp c with escorts := ⟨Contribution.zero, Contribution.zero, Contribution.zero⟩ }).postLamp c) b

/-! ### Track records (R39, R40) -/

/-- A delivery is behind the record (R40). -/
def Track.behind (t : Track) (s : Nat) (fresh : Bool) : Bool :=
  match t.sequence with
  | none => false
  | some n => !fresh && decide (1 ≤ forward s n ∧ forward s n ≤ 31)

/-- A placement written into a record, its sequence, time and tracker left (R40, R50). -/
def Track.placed (t : Track) (rx ry : Int) (p : Placement) : Track :=
  { t with raw := some (rx, ry), garden := some p.garden, lookup := p.lookup, cell := p.cell, zone := p.zone,
           edge := p.edge, offMap := p.offMap }

/-- A current delivery writes every field of the record, then the tracker (R40). The escort follows the
record (R156). -/
def Garden.writeTrack (g : Garden) (k : Slot) (s : Nat) (rx ry : Int) : Garden :=
  let t := (g.track k).placed rx ry (g.place rx ry)
  ((g.setTrack k { t with sequence := some s, time := some g.time.secs }).retrack k).reformEscort k

/-- A record that is not empty placed afresh under new coefficients (R50). -/
def Garden.replaceTrack (g : Garden) (k : Slot) : Garden :=
  match (g.track k).raw with
  | none => g
  | some (rx, ry) => ((g.setTrack k ((g.track k).placed rx ry (g.place rx ry))).retrack k).reformEscort k

/-! ### Calibration capture (R44–R48) -/

/-- Replace the capture record. -/
def Garden.setCapture (g : Garden) (c : Option Capture) : Garden :=
  { g with position := { g.position with capture := c } }

/-- Replace a stake record. -/
def Garden.setStake (g : Garden) (k : Stake) (r : StakeRec) : Garden :=
  { g with position := { g.position with stakes := g.position.stakes.put k r } }

/-- A running capture fails (R47, R48). -/
def Garden.failCapture (g : Garden) (cause : CaptureFailure) : Garden :=
  match g.position.capture with
  | none => g
  | some c => (g.setCapture none).on (·.post (.calibrationFailed c.stake cause))

/-- The eighth delivery completes a capture (R46). -/
def Garden.completeCapture (g : Garden) (c : Capture) : Garden :=
  let r := g.position.stakes.get c.stake
  let x := roundDiv c.sumX 8
  let y := roundDiv c.sumY 8
  ((g.setStake c.stake { r with isSet := true, rawX := x, rawY := y }).setCapture none).on
    (·.post (.stakeCaptured c.stake r.gardenX r.gardenY x y))

/-- A POSITION delivery's raw position added to a capture running for its slot (R40, R46). -/
def Garden.capturePosition (g : Garden) (k : Slot) (rx ry : Int) : Garden :=
  match g.position.capture with
  | none => g
  | some c =>
    if c.slot = k then
      let c := { c with count := c.count + 1, sumX := c.sumX + rx, sumY := c.sumY + ry }
      if 8 ≤ c.count then g.completeCapture c else g.setCapture (some c)
    else g

/-! ### Solving (R49, R50) -/

/-- Three values combined as A, D and the determinant combine them (R49, R50). -/
def cross3 (u1 u2 u3 v1 v2 v3 : Int) : Int := u1 * (v2 - v3) - u2 * (v1 - v3) + u3 * (v1 - v2)

/-- The numerators of C and F (R50). -/
def offset3 (g1 g2 g3 rx1 ry1 rx2 ry2 rx3 ry3 : Int) : Int :=
  g1 * (rx2 * ry3 - rx3 * ry2) - g2 * (rx1 * ry3 - rx3 * ry1) + g3 * (rx1 * ry2 - rx2 * ry1)

/-- The determinant of the three raw stakes (R49). -/
def ByStake.det (s : ByStake StakeRec) : Int :=
  cross3 s.k1.rawX s.k2.rawX s.k3.rawX s.k1.rawY s.k2.rawY s.k3.rawY

/-- The six coefficients, exact and rounded, before the range test (R50). -/
def ByStake.solve (s : ByStake StakeRec) : Coeffs :=
  let r := fun n => roundDiv (65536 * n) s.det
  let off := fun g1 g2 g3 =>
    offset3 g1 g2 g3 s.k1.rawX s.k1.rawY s.k2.rawX s.k2.rawY s.k3.rawX s.k3.rawY
  ⟨r (cross3 s.k1.gardenX s.k2.gardenX s.k3.gardenX s.k1.rawY s.k2.rawY s.k3.rawY),
   r (cross3 s.k1.rawX s.k2.rawX s.k3.rawX s.k1.gardenX s.k2.gardenX s.k3.gardenX),
   r (off s.k1.gardenX s.k2.gardenX s.k3.gardenX),
   r (cross3 s.k1.gardenY s.k2.gardenY s.k3.gardenY s.k1.rawY s.k2.rawY s.k3.rawY),
   r (cross3 s.k1.rawX s.k2.rawX s.k3.rawX s.k1.gardenY s.k2.gardenY s.k3.gardenY),
   r (off s.k1.gardenY s.k2.gardenY s.k3.gardenY)⟩

/-- The coefficients in the order A to F. -/
def Coeffs.toList (c : Coeffs) : List Int := [c.a, c.b, c.c, c.d, c.e, c.f]

/-- The first coefficient outside the signed 32-bit range, coded 1 to 6 for A to F (R50). -/
def Coeffs.overflow (c : Coeffs) : Option Nat :=
  (c.toList.findIdx? (fun x => decide (x < -2147483648 ∨ 2147483647 < x))).map (· + 1)

/-- The stakes that are UNSET, in ascending order (R49). -/
def ByStake.unset (s : ByStake StakeRec) : List Stake := allStakes.filter (fun k => !(s.get k).isSet)

/-- The solve takes effect: coefficients replaced, stakes UNSET, held records placed afresh (R50). The records are
taken in slot order, each slot's escort re-formed with an allocation of its own (DESIGN CHOICE, assumption log 76). -/
def Garden.applySolve (g : Garden) (c : Coeffs) : Garden :=
  let clear : StakeRec → StakeRec := fun r => { r with isSet := false }
  let s := g.position.stakes
  let g := { g with position := { g.position with
    coeffs := c, stakes := ⟨clear s.k1, clear s.k2, clear s.k3⟩ } }
  allSlots.foldl Garden.replaceTrack g

end Sys2Proof.Machine
end

