-- ==== Sys2Proof/Machine/Fleet.lean ====
section
/-! DEFINITION. The Fleet Unit's shared operations: entering a state, orders, the leaving effects, and the
directions it takes from the planner (R54–R68), with the planner's cancelling of a lane (R94). -/

namespace Sys2Proof.Machine

/-- Change a mower's context. -/
def Garden.editMower (g : Garden) (k : Slot) (f : MowerCtx → MowerCtx) : Garden :=
  g.on (fun b => b.setMower k (f (b.mower k)))

/-- The running time at which a mower heard or supervised from now is LOST (R61). -/
def Garden.deadlineFrom (g : Garden) (k : Slot) : Nat := g.now + (g.slot k).cfg.timeout * 1000

/-- The heartbeat deadline set to the present running time plus the timeout (R61). -/
def Garden.restartDeadline (g : Garden) (k : Slot) : Garden :=
  g.editMower k (fun x => { x with deadline := some (g.deadlineFrom k) })

/-- Enter a state: MOWER_STATE at a change, the escort re-formed, the charger tended (R54, R69, R156), in this order and
each with its allocation (DESIGN CHOICE, assumption log 81). -/
def Garden.enter (g : Garden) (k : Slot) (s : MowerState) : Garden :=
  ((g.on (·.setMowerState k s)).reformEscort k).on (·.tendCharger k)

/-- The order number after one (R64). -/
def nextNumber (n : Nat) : Nat := if n < 255 then n + 1 else 1

/-- Hand an order to FL with the slot's source as its destination (R64). -/
def Garden.sendOrder (g : Garden) (k : Slot) (kind : OrderKind) (number : Nat) : Garden :=
  match (g.slot k).cfg.source with
  | none => g
  | some src => { g with field := g.field.arrive ⟨src, kind, number⟩ g.now }

/-- Post a new order (R64). -/
def Garden.postOrder (g : Garden) (k : Slot) (kind : OrderKind) : Garden :=
  let n := (g.mower k).nextOrder
  (g.editMower k (fun x => { x with nextOrder := nextNumber n, outstanding := some ⟨n, kind, 0⟩ })).sendOrder
    k kind n

/-! ### The planner's records of a slot (R83, R94) -/

/-- Replace the planner. -/
def Garden.setPlanner (g : Garden) (p : Planner) : Garden := { g with planner := p }

/-- A slot's lane record. -/
def Garden.lane (g : Garden) (k : Slot) : Option Lane := g.planner.lanes.get k

/-- Write or free a slot's lane record; PU's tracker follows (R41). -/
def Garden.setLane (g : Garden) (k : Slot) (l : Option Lane) : Garden :=
  (g.setPlanner { g.planner with lanes := g.planner.lanes.put k l }).retrack k

/-- Write or remove a slot's yield record. -/
def Garden.setYield (g : Garden) (k : Slot) (y : Option Yield) : Garden :=
  g.setPlanner { g.planner with yields := g.planner.yields.put k y }

/-- Write a slot's set-aside list. -/
def Garden.setSetAside (g : Garden) (k : Slot) (l : List CellAddr) : Garden :=
  g.setPlanner { g.planner with setAside := g.planner.setAside.put k l }

/-- Change the map inside a garden. -/
def Garden.onMap (g : Garden) (f : MapUnit → MapUnit) : Garden := g.on (fun b => { b with ground := f b.ground })

/-- A zone without a slot as its assigned mower. -/
def Zone.unassign (k : Slot) (z : Zone) : Zone := if z.assigned = some k then { z with assigned := none } else z

/-- MP cancels a slot's lane: lane and yield record freed, no zone assigned to the slot any more with its
round-start kept, set-aside list empty (R94; assumption log 12 for the zone). -/
def Garden.cancelLane (g : Garden) (k : Slot) : Garden :=
  (((g.setLane k none).setYield k none).onMap (·.mapZones (Zone.unassign k))).setSetAside k []

/-- Release of all claims of a slot (R9). -/
def Garden.releaseAll (g : Garden) (k : Slot) : Garden := g.onMap (·.releaseAll k)

/-- The leaving effects (R57). -/
def Garden.leave (g : Garden) (k : Slot) : Garden := (g.releaseAll k).cancelLane k

/-- The leaving effects of a mower that is in a working state (R57). -/
def Garden.leaveIfWorking (g : Garden) (k : Slot) : Garden :=
  if (g.mower k).state.working then g.leave k else g

/-- A mower FAULTED, with the leaving effects if it was working, and STOP posted (R56, R60, R65). -/
def Garden.faultMower (g : Garden) (k : Slot) (c : MowerFaultCause) : Garden :=
  ((g.leaveIfWorking k).enter k (.faulted c)).postOrder k .stop

/-- A mower HOMEBOUND with the leaving effects, and RETURN posted (R56, R66, R71). -/
def Garden.goHome (g : Garden) (k : Slot) (c : HomeCause) : Garden :=
  ((g.leave k).enter k (.homebound c)).postOrder k .returnHome

/-! ### Directions (R66) -/

/-- The lane fields of GO_LANE: start, end and the cut height of the lane's zone (R64). -/
def Garden.laneFields (g : Garden) (l : Lane) : LaneFields :=
  ⟨l.startX, l.startY, l.endX, l.endY, (g.ground.zone l.zone).cfg.cutHeight⟩

/-- Whether FU takes a LANE direction in a state (R66). -/
def MowerState.takesLane : MowerState → Bool
  | .docked => true
  | .charging => true
  | .outbound => true
  | .mowing => true
  | .paused c => c ≠ .hold
  | .homebound _ => false
  | .lost => false
  | .faulted _ => false
  | .absent => false

/-- A LANE direction taken: OUTBOUND, departed set, GO_LANE posted; from the dock the deadline restarts
(R58, R61, R66). -/
def Garden.takeLane (g : Garden) (k : Slot) (l : Lane) : Garden :=
  let fromDock := (g.mower k).state.atDock
  let g := g.editMower k (fun x => { x with departed := !x.lastDocked })
  let g := if fromDock then g.restartDeadline k else g
  (g.enter k .outbound).postOrder k (.goLane (g.laneFields l))

/-- A HOME direction, given after MP has released the slot's claims and cancelled its lane; taken in a
working state, otherwise declined (R66, R94). -/
def Garden.sendHome (g : Garden) (k : Slot) (c : HomeCause) : Garden :=
  let g := (g.releaseAll k).cancelLane k
  if (g.mower k).state.working then g.goHome k c else g

/-- Every working mower sent home, slots in order (R96, R97, R101). -/
def Garden.sendAllHome (g : Garden) (c : HomeCause) : Garden :=
  allSlots.foldl (fun g k => if (g.mower k).state.working then g.sendHome k c else g) g

/-- Every working mower recalled by FU, slots in order (R71). -/
def Garden.recallAll (g : Garden) (c : HomeCause) : Garden :=
  allSlots.foldl (fun g k => if (g.mower k).state.working then g.goHome k c else g) g

/-! ### Notices from the map (R68) -/

/-- FU's action on a revocation or block notice: MOWING pauses with a HOLD, PAUSED takes the cause (R68). -/
def Garden.pauseFor (g : Garden) (k : Slot) (c : PauseCause) : Garden :=
  match (g.mower k).state with
  | .mowing => (g.enter k (.paused c)).postOrder k .hold
  | .paused _ => g.enter k (.paused c)
  | .absent => g
  | .docked => g
  | .charging => g
  | .outbound => g
  | .homebound _ => g
  | .lost => g
  | .faulted _ => g

end Sys2Proof.Machine
end

