-- ==== Sys2Proof/Machine/Planning.lean ====
section
/-! DEFINITION. The Mowing Planner: the due queue, zone choice, lanes, claim windows, yields, rounds,
notices, weather and hours, and recovered mowers (R77–R101). -/

namespace Sys2Proof.Machine

/-! ### The due queue (R77, R78) -/

/-- A zone is eligible for the queue (R77). -/
def MapUnit.eligible (m : MapUnit) (z : ZoneId) : Bool :=
  decide ((m.zone z).cfg.kind = .lawn) && !(m.zone z).cfg.withdrawn && m.inUse z

/-- An entry placed by the distance of its due day from today, then by zone number (R77). -/
def insertDue (today : Nat) (e : DueEntry) : List DueEntry → List DueEntry
  | [] => [e]
  | f :: l =>
    let de := dayDistance e.due today
    let df := dayDistance f.due today
    if de < df ∨ (de = df ∧ e.zone.val < f.zone.val) then e :: f :: l else f :: insertDue today e l

/-- Replace the due queue. -/
def Garden.setDue (g : Garden) (q : List DueEntry) : Garden := g.setPlanner { g.planner with due := q }

/-- A zone's entry removed (R78). -/
def Garden.removeDue (g : Garden) (z : ZoneId) : Garden :=
  g.setDue (g.planner.due.filter (fun e => e.zone ≠ z))

/-- An eligible zone enters the queue: due on its last round day plus its interval, or today (R77). -/
def Garden.enterDue (g : Garden) (z : ZoneId) : Garden :=
  if g.ground.eligible z then
    let due := match tget g.planner.lastRound z with
      | some d => (d + (g.ground.zone z).cfg.interval) % 65536
      | none => g.today
    let g := g.removeDue z
    g.setDue (insertDue g.today ⟨z, due⟩ g.planner.due)
  else g

/-- The queue built: emptied, then every eligible zone entered; empty while the clock is UNSET (R78). -/
def Garden.buildQueue (g : Garden) : Garden :=
  let g := g.setDue []
  if g.clock.isSome then (List.finRange 48).foldl Garden.enterDue g else g

/-! ### Lanes (R82, R83) -/

/-- A stamp counts as unmown against a round-start (R82). -/
def unmown (roundStart last : Option Nat) : Bool :=
  match last, roundStart with
  | none, _ => true
  | some d, some r => decide (dayDistance d r < 0)
  | some _, none => false

/-- The cells of a zone that are available to a slot, in grid order (R82). -/
def Garden.availableCells (g : Garden) (k : Slot) (z : ZoneId) : List CellAddr :=
  (((g.ground.cellsOf z).filter (fun p =>
      unmown (g.ground.zone z).roundStart p.2.lastMown && g.ground.mowable (CellAddr.ofKey p.1))).map
    (fun p => CellAddr.ofKey p.1)).filter (fun a => !(g.planner.setAside.get k).contains a)

/-- The direction of a row (R82). -/
def directionOf (row : Fin 64) : Direction := if row.val % 2 = 0 then .increasing else .decreasing

/-- Whether cell `b` follows cell `a` in a direction along a row. -/
def follows (d : Direction) (a b : CellAddr) : Bool :=
  match d with
  | .increasing => b.col.val = a.col.val + 1
  | .decreasing => a.col.val = b.col.val + 1

/-- The run of consecutive cells at the front of a list. -/
def takeRun (d : Direction) : List CellAddr → List CellAddr
  | a :: b :: l => if follows d a b then a :: takeRun d (b :: l) else [a]
  | l => l

/-- The available cells of a row, in the row's direction. -/
def inDirection (row : Fin 64) (cells : List CellAddr) : List CellAddr :=
  let l := cells.filter (fun a => a.row = row)
  match directionOf row with
  | .increasing => l
  | .decreasing => l.reverse

/-- The centre of a cell in cm (R83). -/
def CellAddr.centre (a : CellAddr) : Nat × Nat := (a.col.val * 50 + 25, a.row.val * 50 + 25)

/-- A new lane record over a run of cells (R83, R84). -/
def newLane (z : ZoneId) (row : Fin 64) (cells : List CellAddr) (first last : CellAddr) (now : Nat) : Lane :=
  ⟨z, row, directionOf row, cells, 0, 0, first.centre.1, first.centre.2, last.centre.1, last.centre.2,
    some (now + 600000)⟩

/-- The lane over the run at the front of a row's available cells, if there is one. -/
def laneOfRun (z : ZoneId) (row : Fin 64) (cells : List CellAddr) (now : Nat) : Option Lane :=
  let run := takeRun (directionOf row) cells
  match run.head?, run.getLast? with
  | some a, some b => some (newLane z row run a b now)
  | _, _ => none

/-- Build a lane for a slot in a zone: the lowest row with an available cell (R82). -/
def Garden.buildLane (g : Garden) (k : Slot) (z : ZoneId) : Option Lane :=
  let cells := g.availableCells k z
  match cells with
  | [] => none
  | a :: _ => laneOfRun z a.row (inDirection a.row cells) g.now

/-- Whether a cell lies at or beyond another in a direction. -/
def atOrBeyond (d : Direction) (a b : CellAddr) : Bool :=
  match d with
  | .increasing => decide (a.col.val ≤ b.col.val)
  | .decreasing => decide (b.col.val ≤ a.col.val)

/-- Build a lane from a cell, for a recovered mower (R82). -/
def Garden.buildLaneFrom (g : Garden) (k : Slot) (z : ZoneId) (a : CellAddr) : Option Lane :=
  let row := (inDirection a.row (g.availableCells k z)).filter (atOrBeyond (directionOf a.row) a)
  match laneOfRun z a.row row g.now with
  | some l => some l
  | none => g.buildLane k z

/-! ### Giving lanes, rounds and the zone choice (R81, R84, R95) -/

/-- A zone's assigned mower removed if it is the slot (R84, R89). -/
def Garden.unassign (g : Garden) (k : Slot) (z : ZoneId) : Garden :=
  g.onMap (fun m => m.setZone z ((m.zone z).unassign k))

/-- The end of a slot's assignment to a zone: round-start kept, set-aside list empty (R89, R92). -/
def Garden.endAssignment (g : Garden) (k : Slot) (z : ZoneId) : Garden := (g.unassign k z).setSetAside k []

/-- The assignment of a zone ended if its mower is the slot, with the slot's set-aside list (R83, R84). -/
def Garden.loseZone (g : Garden) (k : Slot) (z : ZoneId) : Garden :=
  if (g.ground.zone z).assigned = some k then g.endAssignment k z else g

/-- Give a lane (R84). -/
def Garden.giveLane (g : Garden) (k : Slot) (l : Lane) : Garden :=
  let g := if (g.lane k).isSome then (g.releaseAll k).setYield k none else g
  let g := g.setLane k (some l)
  if (g.mower k).state.takesLane then g.takeLane k l else (g.setLane k none).loseZone k l.zone

/-- A zone assigned to a slot: round-start kept or set to today, set-aside list empty (R81, steps 1–3). -/
def Garden.assign (g : Garden) (k : Slot) (z : ZoneId) : Garden :=
  (g.onMap (fun m => m.setZone z { m.zone z with
    assigned := some k, roundStart := some ((m.zone z).roundStart.getD g.today) })).setSetAside k []

/-- A zone's round completes (R95). -/
def Garden.completeRound (g : Garden) (k : Slot) (z : ZoneId) : Garden :=
  let cells := g.ground.cellsOf z
  let skipped := (cells.filter (fun p => unmown (g.ground.zone z).roundStart p.2.lastMown)).length
  let g := g.setPlanner { g.planner with lastRound := tset g.planner.lastRound z (some g.today) }
  let g := g.onMap (fun m => m.setZone z { m.zone z with roundStart := none, assigned := none })
  let g := ((g.setSetAside k []).removeDue z).enterDue z
  g.on (·.post (.zoneRoundDone z g.today cells.length skipped))

/-- A queue entry's zone is due, without a mower, and dry (R81). -/
def Garden.dueAndFree (g : Garden) (e : DueEntry) : Bool :=
  decide (dayDistance e.due g.today ≤ 0) && (g.ground.zone e.zone).assigned.isNone && !(g.ground.zone e.zone).wet

/-- The walk of the zone choice over the entries that stood in the queue: whether a lane was given (R81). -/
def Garden.walkDue (k : Slot) : List DueEntry → Garden → Bool × Garden
  | [], g => (false, g)
  | e :: l, g =>
    if g.dueAndFree e then
      let g := g.assign k e.zone
      match g.buildLane k e.zone with
      | some lane => (true, g.giveLane k lane)
      | none => Garden.walkDue k l (g.completeRound k e.zone)
    else Garden.walkDue k l g

/-- The zone choice (R81). -/
def Garden.zoneChoice (g : Garden) (k : Slot) : Bool × Garden := Garden.walkDue k g.planner.due g

/-- Step 3 of the next-lane choice: the zone choice, or home (R81, R89). -/
def Garden.chooseOrHome (g : Garden) (k : Slot) : Garden :=
  match g.zoneChoice k with
  | (true, g) => g
  | (false, g) => g.sendHome k .laneDoneNoWork

/-- The next-lane choice from its step 2, for the zone of the old lane (R89). -/
def Garden.nextLaneIn (g : Garden) (k : Slot) (z : Option ZoneId) : Garden :=
  match z with
  | none => g.chooseOrHome k
  | some z =>
    if (g.ground.zone z).assigned = some k then
      if (g.ground.zone z).wet then (g.endAssignment k z).chooseOrHome k
      else
        match g.buildLane k z with
        | some l => g.giveLane k l
        | none => (g.completeRound k z).chooseOrHome k
    else g.chooseOrHome k

/-- The next-lane choice from its step 1 (R89). -/
def Garden.nextLane (g : Garden) (k : Slot) (z : Option ZoneId) : Garden :=
  if g.planner.cfg.enabled then g.nextLaneIn k z else g.sendHome k .laneDoneNoWork

/-! ### Along the lane (R85–R91) -/

/-- Release the claims of a slot on cells, one at a time (R9, R88). -/
def Garden.releaseCells (g : Garden) (k : Slot) (l : List CellAddr) : Garden :=
  g.onMap (fun m => l.foldl (fun m a => m.release k a) m)

/-- Truncate a slot's lane before index `i` (R88). -/
def Garden.truncate (g : Garden) (k : Slot) (i : Nat) : Garden :=
  match g.lane k with
  | none => g
  | some l =>
    let kept := l.cells.take i
    let g := g.releaseCells k (l.cells.drop i)
    let ends := match kept.getLast? with
      | some a => a.centre
      | none => (l.endX, l.endY)
    g.setLane k (some { l with
      cells := kept, window := min l.window (kept.length - l.current), endX := ends.1, endY := ends.2 })

/-- A lane ends (R89); `stamp` is false where the current cell is the blocked one (R93). -/
def Garden.endLane (g : Garden) (k : Slot) (stamp : Bool) : Garden :=
  match g.lane k with
  | none => g
  | some l =>
    let g :=
      match l.cells[l.current]? with
      | some a => if stamp then g.onMap (·.stampMown a g.today) else g
      | none => g
    (((g.releaseAll k).setLane k none).setYield k none).nextLane k (some l.zone)

/-- The lane-end test (R89). -/
def Garden.testLaneEnd (g : Garden) (k : Slot) : Garden :=
  match g.lane k with
  | none => g
  | some l => if l.cells.length ≤ l.current + 1 then g.endLane k true else g

/-- The yield begins: YIELD_PAUSE to FU, taken in MOWING only (R66, R90). -/
def Garden.beginYield (g : Garden) (k : Slot) (a : CellAddr) : Garden :=
  if (g.planner.yields.get k).isNone ∧ (g.mower k).state = .mowing then
    let g := (g.enter k (.paused .yield)).postOrder k .hold
    g.setYield k (some ⟨a, g.now + g.planner.cfg.yieldTime * 1000⟩)
  else g

/-- Ask GM for the lane's cells from index `i` on, at most `n` of them, each grant joining the window: the
first refusal with its index, if there is one (R87). -/
def Garden.askCells (k : Slot) : Nat → Nat → Garden → Garden × Option (Nat × CellAddr × ClaimAnswer)
  | 0, _, g => (g, none)
  | n + 1, i, g =>
    match g.lane k with
    | none => (g, none)
    | some l =>
      match l.cells[i]? with
      | none => (g, none)
      | some a =>
        let ans := g.ground.claimAnswer k a
        if ans = .granted then
          Garden.askCells k n (i + 1)
            ((g.onMap (·.claim k a)).setLane k (some { l with window := i + 1 - l.current }))
        else (g, some (i, a, ans))

/-- Fill the window and act on the first refusal (R87). -/
def Garden.fillWindow (g : Garden) (k : Slot) : Garden :=
  match g.lane k with
  | none => g
  | some l =>
    match Garden.askCells k 8 l.current g with
    | (g, none) => g
    | (g, some (i, a, .yield)) => if i ≤ l.current + 1 then g.beginYield k a else g
    | (g, some (i, _, _)) => g.truncate k i

/-- A position update of a MOWING mower with a lane (R86). A cell outside the lane does nothing, also where R92 has
truncated the lane so that it ends at the next update (DESIGN CHOICE, assumption log 82). -/
def Garden.moveAlong (g : Garden) (k : Slot) (l : Lane) : Garden :=
  match (g.track k).cell.bind (fun a => l.cells.idxOf? a) with
  | none => g
  | some j =>
    let g :=
      if l.current < j then
        let passed := (l.cells.take j).drop l.current
        let g := g.onMap (fun m => passed.foldl (fun m a => (m.release k a).stampMown a g.today) m)
        g.setLane k (some { l with current := j, window := l.window - (j - l.current) })
      else g
    (g.fillWindow k).testLaneEnd k

/-- A cell set aside; a full list loses its oldest (R83). -/
def Garden.setAsideCell (g : Garden) (k : Slot) (a : CellAddr) : Garden :=
  let l := g.planner.setAside.get k
  if l.contains a then g
  else g.setSetAside k ((if l.length < 32 then l else l.drop 1) ++ [a])

/-- A grant on the refused cell of a yield: YIELD_RESUME, and the window filled (R66, R91). -/
def Garden.resumeYield (g : Garden) (k : Slot) (a : CellAddr) : Garden :=
  let g := (g.onMap (·.claim k a)).setYield k none
  if (g.mower k).state = .paused .yield then ((g.enter k .mowing).postOrder k .resume).fillWindow k else g

/-- The lane truncated before a cell and ended at once (R91). -/
def Garden.endBefore (g : Garden) (k : Slot) (a : CellAddr) : Garden :=
  let g := g.setYield k none
  match (g.lane k).bind (fun l => l.cells.idxOf? a) with
  | some i => (g.truncate k i).endLane k true
  | none => g.endLane k true

/-- The retry of a yield at a position update (R91). -/
def Garden.retryYield (g : Garden) (k : Slot) : Garden :=
  match g.planner.yields.get k with
  | none => g
  | some y =>
    match g.ground.claimAnswer k y.cell with
    | .granted => g.resumeYield k y.cell
    | .yield => g
    | .wet => g.endBefore k y.cell
    | .unmowable => g.endBefore k y.cell

/-- The yield expiry (R91). -/
def Garden.expireYield (g : Garden) (k : Slot) : Garden :=
  match g.planner.yields.get k with
  | none => g
  | some y =>
    if g.ground.claimAnswer k y.cell = .granted then g.resumeYield k y.cell
    else (g.setAsideCell k y.cell).endBefore k y.cell

/-- A plain position update handed on by FU (R86, R91). An off-map update claims nothing for a lane (R43); a mower
PAUSED (YIELD) still asks for its refused cell at it, because R91 asks at each update, and a grant then claims
cells and fills the window (DESIGN CHOICE, assumption log 43). -/
def Garden.updatePosition (g : Garden) (k : Slot) : Garden :=
  match (g.mower k).state with
  | .mowing =>
    match g.lane k with
    | some l => g.moveAlong k l
    | none => g.nextLane k none
  | .paused .yield => g.retryYield k
  | .paused _ => g
  | .absent => g
  | .docked => g
  | .charging => g
  | .outbound => g
  | .homebound _ => g
  | .lost => g
  | .faulted _ => g

/-- The arrival check on the lane's first cell (R85). FU takes ARRIVED, since the check comes in OUTBOUND. -/
def Garden.arrive (g : Garden) (k : Slot) : Garden :=
  match g.lane k with
  | none => g
  | some l =>
    match l.cells.head? with
    | none => g
    | some a =>
      match g.ground.claimAnswer k a with
      | .granted =>
        let g := (g.onMap (·.claim k a)).setLane k (some { l with window := 1, arrival := none })
        ((g.enter k .mowing).fillWindow k).testLaneEnd k
      | .yield => (g.setAsideCell k a).nextLaneIn k (some l.zone)
      | .wet => g.nextLaneIn k (some l.zone)
      | .unmowable => g.nextLaneIn k (some l.zone)

/-! ### Changes to the ground (R92, R93) -/

/-- A slot's lane when its zone is withdrawn (R92). -/
def Garden.withdrawLane (z : ZoneId) (g : Garden) (k : Slot) : Garden :=
  match g.lane k with
  | none => g
  | some l =>
    if l.zone = z then
      match (g.mower k).state with
      | .outbound => g.chooseOrHome k
      | .paused .yield => ((g.setYield k none).truncate k (l.current + 1)).endLane k true
      | .mowing => g.truncate k (l.current + 1)
      | .paused _ => g.truncate k (l.current + 1)
      | .absent => g
      | .docked => g
      | .charging => g
      | .homebound _ => g
      | .lost => g
      | .faulted _ => g
    else g

/-- MP's action on a withdrawn zone (R92). R92 gives the slots whose lanes lie in it no order; they are taken in order
0, 1, 2 (DESIGN CHOICE, assumption log 73). -/
def Garden.zoneWithdrawn (g : Garden) (z : ZoneId) : Garden :=
  let g := g.removeDue z
  let g := match (g.ground.zone z).assigned with
    | some k => g.endAssignment k z
    | none => g
  allSlots.foldl (Garden.withdrawLane z) g

/-- MP's action on a restored zone (R78, R92). -/
def Garden.zoneRestored (g : Garden) (z : ZoneId) : Garden := if g.clock.isSome then g.enterDue z else g

/-- A listed cell truncates every lane that holds it beyond the claim window (R93). The current cell is not
beyond the window, so no lane is left without a cell (R83; assumption log 20). -/
def Garden.obstacleAhead (g : Garden) (a : CellAddr) : Garden :=
  allSlots.foldl (fun g k =>
    match g.lane k with
    | none => g
    | some l =>
      match l.cells.idxOf? a with
      | none => g
      | some i => if l.current < i ∧ l.current + l.window ≤ i then g.truncate k i else g) g

/-- A block notice: FU first, then MP ends the lane at the current cell (R68, R93). -/
def Garden.blockNotice (g : Garden) (k : Slot) (a : CellAddr) : Garden :=
  let g := g.pauseFor k .blocked
  match g.lane k with
  | none => g
  | some l =>
    ((g.setYield k none).truncate k (l.current + 1)).endLane k (l.cells[l.current]? ≠ some a)

/-- A revocation notice: FU first, then MP truncates before the first lost cell and ends the lane (R68, R93). -/
def Garden.revokeNotice (g : Garden) (k : Slot) (lost : List CellAddr) : Garden :=
  let g := g.pauseFor k .wet
  match g.lane k with
  | none => g
  | some l =>
    let i := l.cells.findIdx (fun a => lost.contains a)
    ((g.setYield k none).truncate k (max i l.current)).endLane k true

/-- The revocation notices of a step, for each mower that lost a cell, slots in order (R13, R15). -/
def Garden.revokeNotices (g : Garden) (lost : Slot → List CellAddr) : Garden :=
  allSlots.foldl (fun g k => if (lost k).isEmpty then g else g.revokeNotice k (lost k)) g

/-! ### Dispatch (R79, R80) -/

/-- The planner conditions other than the mode (R79). -/
def Garden.mayMow (g : Garden) : Bool :=
  g.clock.isSome && g.planner.cfg.enabled && decide (g.planner.rain = .dry) && !g.inQuiet

/-- A battery is present and at or above the dispatch level (R72, R79). -/
def Garden.charged (g : Garden) (k : Slot) : Bool :=
  match (g.mower k).battery with
  | some p => decide ((g.slot k).cfg.dispatchLevel ≤ p)
  | none => false

/-- A mower is ready (R79). -/
def Garden.ready (g : Garden) (k : Slot) : Bool := (g.mower k).state.atDock && g.charged k

/-- The walk of a dispatch pass over the slots; it ends where a choice finds no zone (R80). -/
def Garden.passSlots : List Slot → Garden → Garden
  | [], g => g
  | k :: l, g =>
    if g.ready k then
      match g.zoneChoice k with
      | (true, g) => Garden.passSlots l g
      | (false, g) => g
    else Garden.passSlots l g

/-- A dispatch pass (R80). -/
def Garden.dispatchPass (g : Garden) : Garden :=
  if g.mode = .run ∧ g.mayMow then Garden.passSlots allSlots g else g

/-! ### Weather and hours (R96, R97) -/

/-- The rain state changes, with its report (R96). -/
def Garden.setRain (g : Garden) (s : RainState) (expiry : Option Nat) : Garden :=
  (g.setPlanner { g.planner with rain := s, dryWaitExpiry := expiry }).on (·.post (.rainState s))

/-- A RAIN reading (R96); a dry-wait of 0 gives DRY at once, with the pass of a change to DRY (R80). -/
def Garden.takeRain (g : Garden) (wet : Bool) : Garden :=
  let g := g.setPlanner { g.planner with rainSilent := false, rainOnset := false }
  match g.planner.rain, wet with
  | .dry, true => (g.setRain .wet none).sendAllHome .rain
  | .dry, false => g
  | .wet, true => g
  | .wet, false =>
    if g.planner.cfg.dryWait = 0 then (g.setRain .dry none).dispatchPass
    else g.setRain .waiting (some (g.now + g.planner.cfg.dryWait * 60000))
  | .waiting, true => g.setRain .wet none
  | .waiting, false => g

/-- Quiet hours judged from the clock: a quiet start sends the working mowers home, a quiet end runs a
dispatch pass (R97). -/
def Garden.judgeQuiet (g : Garden) : Garden :=
  let was := g.planner.quiet
  let isQuiet := g.inQuiet
  let g := g.setPlanner { g.planner with quiet := isQuiet }
  if isQuiet ∧ !was then g.sendAllHome .quiet
  else if was ∧ !isQuiet then g.dispatchPass
  else g

/-! ### Recovered mowers (R99) -/

/-- The zone of a recovered mower's cell, where it is due, free and dry (R99): the zone field that the track record
holds from its latest lookup (DESIGN CHOICE, assumption log 56). -/
def Garden.recoveryZone (g : Garden) (k : Slot) : Option (ZoneId × CellAddr) :=
  match (g.track k).cell, (g.track k).zone with
  | some a, some z =>
    match g.planner.due.find? (fun e => e.zone = z) with
    | some e => if g.dueAndFree e then some (z, a) else none
    | none => none
  | _, _ => none

/-- MP's answer for a mower in PAUSED (RECOVERED) (R99). -/
def Garden.recover (g : Garden) (k : Slot) : Garden :=
  if g.mode = .setup then g.sendHome k .setup
  else if g.clock.isNone ∨ g.planner.cfg.enabled = false then g.sendHome k .laneDoneNoWork
  else if g.planner.rain ≠ .dry then g.sendHome k .rain
  else if g.inQuiet then g.sendHome k .quiet
  else
    match g.recoveryZone k with
    | some (z, a) =>
      let g := g.assign k z
      match g.buildLaneFrom k z a with
      | some l => g.giveLane k l
      | none => (g.completeRound k z).chooseOrHome k
    | none => g.chooseOrHome k

end Sys2Proof.Machine
end

