-- ==== Sys2Proof/Machine/Show.lean ====
section
/-! DEFINITION. The Show Engine: ramps, the context, step play, scenes, faults, reset and the show tick
(R128–R141). The height chain stands in Chain. -/

namespace Sys2Proof.Machine

/-- Replace the Show Engine. -/
def Bench.setShows (b : Bench) (u : ShowUnit) : Bench := { b with shows := u }

/-- Replace the show context. -/
def Bench.setContext (b : Bench) (x : ShowContext) : Bench := b.setShows { b.shows with ctx := x }

/-- The chain recomputed and the step's allocations settled (R144). -/
def Bench.rechain (b : Bench) : Bench := b.chain.settle

/-! ### Ramps (R132) -/

/-- A ramp of `ms` milliseconds begun toward a target; a ramp of 0 sets the value (R132). -/
def Ramped.start (r : Ramped) (target ms : Nat) : Ramped :=
  if ms = 0 then ⟨target, target, none⟩ else ⟨r.value, target, some ⟨r.value, ceilDiv ms 50, 0⟩⟩

/-- The value of a ramp after `k` of its `n` ticks (R132). -/
def rampValue (start target n k : Nat) : Nat :=
  ((start : Int) + Int.tdiv (((target : Int) - start) * k) n).toNat

/-- A running ramp moved by one tick (R132). -/
def Ramped.advance (r : Ramped) : Ramped :=
  match r.ramp with
  | none => r
  | some p =>
    if p.ticks ≤ p.done + 1 then ⟨r.target, r.target, none⟩
    else ⟨rampValue p.start r.target p.ticks (p.done + 1), r.target, some { p with done := p.done + 1 }⟩

/-- Every ramp of the context moved by one tick (R131). -/
def ShowContext.advance (x : ShowContext) : ShowContext :=
  { x with nozzles := nmap Ramped.advance x.nozzles,
           owned := x.owned.map (fun o => { o with level := o.level.advance }) }

/-! ### Owned circuits (R133, R157) -/

/-- SE hands LU the show level of every owned circuit (R133). -/
def Bench.handLights (b : Bench) : Bench :=
  (b.shows.ctx.owned.foldl (fun b o => b.setShow o.circuit (some o.level.value)) b).settle

/-- A circuit as it joins the set: at the output level that LU holds (R133). -/
def Bench.join (b : Bench) (c : Circuit) : Owned :=
  match b.shows.ctx.owned.find? (fun o => o.circuit = c) with
  | some o => o
  | none => ⟨c, ⟨(b.lamp c).output, (b.lamp c).output, none⟩⟩

/-- The owned set becomes a scene's set: leavers' SHOW requests absent, joiners at LU's output (R133, R134). LU is handed
every owned circuit's level, also where no level has changed (DESIGN CHOICE, assumption log 85). -/
def Bench.own (b : Bench) (set : List Circuit) : Bench :=
  let owned := (allCircuits.filter (fun c => set.contains c)).map b.join
  let leavers := b.shows.ctx.owned.filter (fun o => !set.contains o.circuit)
  let b := b.setContext { b.shows.ctx with owned := owned }
  (leavers.foldl (fun b o => b.setShow o.circuit none) b).handLights

/-! ### Steps (R130, R133, R135, R136) -/

/-- The ramp of a step in ms: the default ramp for DEFAULT, at most 60,000 (R130). -/
def ShowContext.rampOf (x : ShowContext) (ramp : Option Nat) : Nat :=
  match ramp with
  | none => x.defaultRamp
  | some ms => min 60000 ms

/-- NOZZLE (R130, R135). -/
def ShowContext.stepNozzle (x : ShowContext) (n : Nozzle) (target : Nat) (ramp : Option Nat) : ShowContext :=
  { x with nozzles := nput x.nozzles n ((nget x.nozzles n).start (min 1000 target) (x.rampOf ramp)) }

/-- LIGHT on an owned circuit (R130, R135). -/
def ShowContext.stepLight (x : ShowContext) (circuit target : Nat) (ramp : Option Nat) : ShowContext :=
  { x with owned := x.owned.map (fun o =>
      if o.circuit.val + 1 = circuit then { o with level := o.level.start (min 1000 target) (x.rampOf ramp) }
      else o) }

/-- Whether a circuit number is in the owned set. -/
def ShowContext.owns (x : ShowContext) (circuit : Nat) : Bool :=
  x.owned.any (fun o => decide (o.circuit.val + 1 = circuit))

/-- RESTORE of a saved context (R133). -/
def ShowContext.restoreFrom (x copy : ShowContext) : ShowContext :=
  let back := fun (r target : Ramped) => r.start target.target copy.defaultRamp
  { nozzles := ⟨back x.nozzles.n1 copy.nozzles.n1, back x.nozzles.n2 copy.nozzles.n2,
      back x.nozzles.n3 copy.nozzles.n3, back x.nozzles.n4 copy.nozzles.n4⟩,
    owned := x.owned.map (fun o =>
      match copy.owned.find? (fun p => p.circuit = o.circuit) with
      | some p => { o with level := back o.level p.level }
      | none => o),
    defaultRamp := copy.defaultRamp }

/-- What running one step that is neither WAIT nor END gives. -/
inductive StepResult | ran (u : ShowUnit) | fails (c : ShowFaultCause)
  deriving DecidableEq, Repr

/-- One step run; the next position is the step after it unless REPEAT jumps (R130, R133, R135, R136). -/
def ShowUnit.runStep (u : ShowUnit) (s : Scene) (step : ShowStep) : StepResult :=
  let on : Scene := { s with next := s.next + 1 }
  match step with
  | .nozzle n target ramp =>
    match nozzleOf? n with
    | some n => .ran { u with ctx := u.ctx.stepNozzle n target ramp, scene := some on }
    | none => .fails .badStep
  | .light c target ramp =>
    if u.ctx.owns c then .ran { u with ctx := u.ctx.stepLight c target ramp, scene := some on }
    else .fails .badStep
  | .rampDefault ms => .ran { u with ctx := { u.ctx with defaultRamp := min 60000 ms }, scene := some on }
  | .save =>
    if u.stack.length < 4 then .ran { u with stack := u.ctx :: u.stack, scene := some on } else .fails .stackOver
  | .restore =>
    match u.stack with
    | [] => .fails .stackUnder
    | copy :: l => .ran { u with ctx := u.ctx.restoreFrom copy, stack := l, scene := some on }
  | .mark => .ran { u with scene := some { on with mark := some (s.next + 1) } }
  | .repeatLoop count =>
    match s.mark with
    | none => .fails .repeatWithoutMark
    | some m =>
      match s.loop.getD (max 1 (min 255 count)) with
      | 0 => .ran { u with scene := some { on with loop := none } }
      | k + 1 => .ran { u with scene := some { s with next := m, loop := some k } }
  | .scene _ => .fails .badStep
  | .unknown _ => .fails .badStep
  | .wait _ => .ran { u with scene := some on }
  | .sceneEnd => .ran { u with scene := some on }

/-! ### Faults, scenes and play (R134–R139) -/

/-- The ring position of an offset from the head (R128). -/
def ShowUnit.position (u : ShowUnit) (offset : Nat) : Nat := (u.head + offset) % 512

/-- A show fault at an offset from the head (R139). The height chain is recomputed at the end of the play. -/
def Bench.faultShow (b : Bench) (cause : ShowFaultCause) (offset : Nat) : Bench :=
  let b := b.setShows { b.shows with
    engine := .faulted, stack := [],
    ctx := { b.shows.ctx with nozzles := ⟨Ramped.zero, Ramped.zero, Ramped.zero, Ramped.zero⟩ } }
  (b.own []).post (.showFault cause (b.shows.position offset))

/-- The ticks of a WAIT (R130, R131). -/
def waitTicks (ms : Nat) : Nat := ceilDiv (max 50 (min 600000 ms)) 50

/-- Steps run one after another until a WAIT, an END or a fault; the Bool says that END was reached
(R135). The number is how many further steps may run before RUNAWAY. Each step hands LU the owned circuits' levels, also
one that changes none (DESIGN CHOICE, assumption log 85). -/
def Bench.runSteps : Nat → Bench → Bench × Bool
  | 0, b => (b.faultShow .runaway ((b.shows.scene.map Scene.next).getD 0), false)
  | n + 1, b =>
    match b.shows.scene with
    | none => (b, false)
    | some s =>
      match b.shows.steps[s.next]? with
      | none => (b, false)
      | some .sceneEnd => (b, true)
      | some (.wait ms) =>
        (b.setShows { b.shows with scene := some { s with next := s.next + 1, wait := some (waitTicks ms) } }, false)
      | some step =>
        match b.shows.runStep s step with
        | .ran u => Bench.runSteps n (b.setShows u).handLights
        | .fails c => (b.faultShow c s.next, false)

/-- An END stands among the first 65 steps counted from the head (R134). -/
def ShowUnit.endInReach (u : ShowUnit) : Bool := (u.steps.take 65).contains .sceneEnd

/-- A scene begins at the head, or the show faults; the Bool says that it began (R134). A head step that is not SCENE
is BAD_STEP, whether or not an END stands within 65 steps (DESIGN CHOICE, assumption log 78). -/
def Bench.beginScene (b : Bench) : Bench × Bool :=
  match b.shows.steps.head? with
  | some (.scene set) =>
    if b.shows.endInReach then
      ((b.setShows { b.shows with scene := some ⟨1, none, none, none⟩ }).own set, true)
    else (b.faultShow .sceneTooLong 0, false)
  | _ => (b.faultShow .badStep 0, false)

/-- The scene's steps freed at its END (R137). -/
def Bench.freeScene (b : Bench) (s : Scene) : Bench :=
  b.setShows { b.shows with
    head := b.shows.position (s.next + 1), steps := b.shows.steps.drop (s.next + 1),
    stack := [], scene := none }

/-- The run-down at an empty ring (R137). -/
def Bench.runDown (b : Bench) : Bench :=
  let x := b.shows.ctx
  let b := b.setShows { b.shows with
    engine := .idle, ctx := { x with nozzles := nmap (fun r => r.start 0 x.defaultRamp) x.nozzles } }
  (b.own []).post .showEnded

/-- Scenes played one after another in the step: a scene runs to a WAIT or a fault, or to its END, after
which the ring decides (R134–R137). Each scene frees at least its two steps, so 512 slots hold no more
scenes than the given number. -/
def Bench.playOn : Nat → Bench → Bench
  | 0, b => b
  | n + 1, b =>
    match b.runSteps 65536 with
    | (b, false) => b
    | (b, true) =>
      match b.shows.scene with
      | none => b
      | some s =>
        let b := b.freeScene s
        if b.shows.steps.contains .sceneEnd then
          match b.beginScene with
          | (b, true) => Bench.playOn n b
          | (b, false) => b
        else if b.shows.steps.isEmpty then b.runDown
        else if 65 ≤ b.shows.steps.length then b.faultShow .sceneTooLong 0
        else b

/-- Begin the scene at the head and play (R134), then recompute the chain. -/
def Bench.beginAndPlay (b : Bench) : Bench :=
  match b.beginScene with
  | (b, true) => (b.playOn 257).rechain
  | (b, false) => b.rechain

/-- The test at a boundary (R138). -/
def Bench.testBoundary (b : Bench) : Bench :=
  if b.shows.engine = .running ∧ b.shows.scene.isNone then
    if b.shows.endInReach then b.beginAndPlay
    else if 65 ≤ b.shows.steps.length then (b.faultShow .sceneTooLong 0).rechain
    else b
  else b

/-- The steps after a WAIT run, then the chain is recomputed (R131, R135). -/
def Bench.endWait (b : Bench) : Bench :=
  match b.shows.scene with
  | some s =>
    if b.shows.engine = .running ∧ s.wait = some 0 then
      ((b.setShows { b.shows with scene := some { s with wait := none } }).playOn 257).rechain
    else b
  | none => b

/-! ### Reset and the show tick (R131, R141) -/

/-- SHOW_RESET (R141). The owned circuits leave and their allocation settles before the nozzles go to 0 (DESIGN CHOICE,
assumption log 79). -/
def Bench.resetShow (b : Bench) : Bench :=
  let b := b.own []
  let b := b.setShows { b.shows with
    engine := .idle, head := 0, steps := [], scene := none, stack := [], ctx := ShowContext.start }
  (allNozzles.foldl Bench.dropSplash b).rechain

/-- Show time advances at a tick (R131). -/
def ShowUnit.timeAdvances (u : ShowUnit) : Bool :=
  match u.engine with
  | .running => true
  | .idle => allNozzles.any (fun n => (nget u.ctx.nozzles n).ramp.isSome)
  | .paused => false
  | .faulted => false

/-- A running WAIT's count falls by 1 (R131). -/
def Scene.fallWait (s : Scene) : Scene := { s with wait := s.wait.map (· - 1) }

/-- The show tick (R131). At a WAIT that reaches 0 the rest of the tick is WAIT_END's (assumption log 13). -/
def Bench.showTick (b : Bench) : Bench :=
  let b := if b.shows.timeAdvances then
      b.setShows { b.shows with ctx := b.shows.ctx.advance, scene := b.shows.scene.map Scene.fallWait }
    else b
  let b := b.handLights
  match b.shows.scene with
  | some s => if b.shows.engine = .running ∧ s.wait = some 0 then b else b.rechain
  | none => b.rechain

/-! ### Wind (R142) -/

/-- The wind factor written, with the chain recomputed where it changes (R142). -/
def Bench.setWindFactor (b : Bench) (w : Nat) : Bench :=
  if w = b.shows.windFactor then b else (b.setShows { b.shows with windFactor := w }).rechain

/-- A WIND delivery (R142). -/
def Bench.takeWind (b : Bench) (v : Nat) : Bench :=
  (b.setShows { b.shows with wind := some v, windSilent := false }).setWindFactor (windFactorOf b.shows.cfg v)

/-- The onset of wind silence (R142). -/
def Bench.silenceWind (b : Bench) : Bench :=
  (b.setShows { b.shows with windSilent := true }).setWindFactor (min b.shows.windFactor 500)

/-- No WIND source is left: v absent and w 1,000 (R142). -/
def Bench.clearWind (b : Bench) : Bench :=
  (b.setShows { b.shows with wind := none, windSilent := false }).setWindFactor 1000

end Sys2Proof.Machine
end

