-- ==== Sys2Proof/Machine/Deliveries.lean ====
section
/-! DEFINITION. What the deliveries of good field frames do: POSITION at PU and FU, OBSTACLE at GM and
MP, MOWER_FAULT at FU, MOTION and DUSK at LU, WIND at SE, RAIN at MP (R6, R29, R40, R55–R65, R142, R150–R154). -/

namespace Sys2Proof.Machine

/-! ### POSITION at FU (R55–R59, R63, R65, R67) -/

/-- What FU reads of a POSITION delivery. -/
structure Heartbeat where
  battery : Nat
  echo : Nat
  lifted : Bool
  docked : Bool
  deriving DecidableEq, Repr

/-- The outstanding order after an echo (R55). -/
def answerEcho (o : Option Outstanding) (echo : Nat) : Option Outstanding :=
  match o with
  | some x => if x.number = echo then none else some x
  | none => none

/-- The echo test alone (R55, R59). -/
def Garden.takeEcho (g : Garden) (k : Slot) (echo : Nat) : Garden :=
  g.editMower k (fun x => { x with outstanding := answerEcho x.outstanding echo })

/-- The fields written at a current delivery, departed included (R55, R58). -/
def MowerCtx.hear (x : MowerCtx) (h : Heartbeat) (now deadline : Nat) : MowerCtx :=
  { x with
    battery := some h.battery, lastDocked := h.docked, lastLifted := h.lifted, lastEcho := h.echo,
    lastHeard := some now, deadline := some deadline,
    departed := if x.state = .outbound ∧ h.docked = false then true else x.departed }

/-- Docking (R58). A mower that is DOCKED or CHARGING already keeps its outstanding order (assumption log 40). -/
def Garden.dock (g : Garden) (k : Slot) : Garden :=
  if (g.mower k).state.atDock then g
  else ((g.leaveIfWorking k).editMower k (fun x => { x with outstanding := none })).enter k .docked

/-- The docked flag is not acted on in OUTBOUND before the mower has departed (R58). -/
def MowerCtx.ignoresDock (x : MowerCtx) : Bool := decide (x.state = .outbound) && !x.departed

/-- The conditions of an arrival check (R67). -/
def Garden.arriving (g : Garden) (k : Slot) : Bool :=
  decide ((g.mower k).state = .outbound) && (g.mower k).outstanding.isNone && (g.mower k).departed &&
    match g.lane k with
    | some l => decide ((g.track k).cell.isSome ∧ l.cells.head? = (g.track k).cell)
    | none => false

/-- Cases 4 to 7 of the state step (R56); `recovered` says that PAUSED (RECOVERED) was entered in this
delivery. -/
def Garden.moveOn (g : Garden) (k : Slot) (h : Heartbeat) (recovered : Bool) : Garden :=
  let fromLost := decide ((g.mower k).state = .lost)
  let g := if fromLost then g.enter k (.paused .recovered) else g
  if (g.mower k).state.working ∧ h.battery ≤ (g.slot k).cfg.homeboundLevel then g.goHome k .battery
  else if recovered || fromLost then g.recover k
  else if g.arriving k then g.arrive k
  else g.updatePosition k

/-- The state step of a current delivery (R56). -/
def Garden.moveState (g : Garden) (k : Slot) (h : Heartbeat) : Garden :=
  let fresh := decide ((g.mower k).state = .absent)
  let g := if fresh then g.enter k (if h.docked then .docked else .paused .recovered) else g
  if h.lifted then (if (g.mower k).state.isFaulted then g else g.faultMower k .lifted)
  else if h.docked ∧ (g.mower k).ignoresDock = false then g.dock k
  else g.moveOn k h (fresh && !h.docked)

/-- The resend step (R65), for an order that was not posted in this delivery's own step. -/
def Garden.resend (g : Garden) (k : Slot) : Garden :=
  match (g.mower k).outstanding, (g.slot k).cfg.source with
  | some o, some src =>
    if g.field.tx.holds src o.number then g
    else if o.resends < 3 then
      (g.editMower k (fun x => { x with outstanding := some { o with resends := o.resends + 1 } })).sendOrder
        k o.kind o.number
    else if (g.mower k).state.isFaulted then g.editMower k (fun x => { x with outstanding := none })
    else g.faultMower k .noEcho
  | _, _ => g

/-- The fields that FU reads of a current delivery, and the echo test (R55). -/
def Garden.hearFields (g : Garden) (k : Slot) (h : Heartbeat) : Garden :=
  (g.editMower k (fun x => x.hear h g.now (g.deadlineFrom k))).takeEcho k h.echo

/-- A current POSITION delivery at FU (R55, R56, R65, R69). -/
def Garden.hearCurrent (g : Garden) (k : Slot) (h : Heartbeat) : Garden :=
  let g := g.hearFields k h
  let number := (g.mower k).nextOrder
  let g := g.moveState k h
  let g := if (g.mower k).nextOrder = number then g.resend k else g
  g.on (·.tendCharger k)

/-- A POSITION delivery: the capture, the track record, then FU (R40, R46). -/
def Garden.takePosition (g : Garden) (k : Slot) (s : Nat) (fresh : Bool) (rx ry : Int) (h : Heartbeat) :
    Garden :=
  let g := g.capturePosition k rx ry
  if (g.track k).behind s fresh then g.takeEcho k h.echo
  else (g.writeTrack k s rx ry).hearCurrent k h

/-! ### OBSTACLE (R6, R42, R93) -/

/-- The running time at which an obstacle listed now expires (R6). -/
def Garden.blockExpiry (g : Garden) : Nat := g.now + g.planner.cfg.obstacleHold * 60000

/-- An OBSTACLE delivery: placed by PU, listed by GM, passed to MP, with a block notice to the holder of
the cell (R6, R42). -/
def Garden.takeObstacle (g : Garden) (rx ry : Int) : Garden :=
  match (g.place rx ry).cell with
  | none => g
  | some a =>
    let g := g.onMap (·.listBlock a g.blockExpiry)
    let holder := (g.ground.cell a).claim
    let g := g.obstacleAhead a
    match holder with
    | some k => g.blockNotice k a
    | none => g

/-! ### MOWER_FAULT (R60) -/

/-- A MOWER_FAULT delivery (R60, R61). -/
def Garden.takeMowerFault (g : Garden) (k : Slot) (code : Nat) : Garden :=
  let x := g.mower k
  let g := g.editMower k (fun x => { x with faultCode := some code })
  if x.state.isFaulted then
    if x.state = .faulted .mowerFault then
      (if x.faultCode = some code then g else g.on (·.reportMower k))
    else g.enter k (.faulted .mowerFault)
  else
    let g := if x.state.supervised then g else g.restartDeadline k
    g.faultMower k .mowerFault

/-! ### DUSK and MOTION (R150, R151, R154) -/

/-- The pending state after a candidate (R150). -/
def LightUnit.judgeCandidate (u : LightUnit) (c : DuskState) (expiry : Nat) : LightUnit :=
  if c = u.dusk then { u with pendingDusk := none }
  else
    match u.pendingDusk with
    | some p => if p.state = c then u else { u with pendingDusk := some ⟨c, expiry⟩ }
    | none => { u with pendingDusk := some ⟨c, expiry⟩ }

/-- A DUSK delivery (R150, R151). -/
def Bench.takeDusk (b : Bench) (lux : Nat) : Bench :=
  let u := { b.lights with lux := some lux, silent := false, onset := false }
  { b with lights := u.judgeCandidate (duskCandidate u.dusk lux) (b.now + 120000) }

/-- The onset of dusk silence (R151). -/
def Bench.silenceDusk (b : Bench) : Bench :=
  { b with lights := { b.lights with pendingDusk := none, silent := true, onset := true } }.post .duskSilent

/-- The dusk state changes, with the effects of the change (R151). The asks that it changes are all posted before the
one allocation they call for (DESIGN CHOICE, assumption log 71). -/
def Garden.changeDusk (g : Garden) (s : DuskState) : Garden :=
  let was := g.lights.dusk
  let g := g.on (fun b => { b with lights := { b.lights with dusk := s, pendingDusk := none } })
  let g := g.on (fun b => (b.post (.duskState s (b.lights.lux.getD 0))).formSchedules)
  let g := if s = .day then g.on (fun b => allCircuits.foldl (fun b c => b.setMotion c 0 none) b) else g
  let g := if s = .night then g.formEscorts else g
  let g := if was = .night then g.on Bench.dropEscorts else g
  g.settle

/-- A MOTION delivery from a source (R154). The asks of all its circuits are posted before the one allocation they
call for (DESIGN CHOICE, assumption log 71). -/
def Bench.takeMotion (b : Bench) (src : SourceId) : Bench :=
  match b.lights.motionMap.toList.find? (fun e => e.source = some src) with
  | none => b
  | some e =>
    if b.lights.dusk = .day then b
    else
      (e.circuits.foldl (fun b c =>
        if (b.lamp c).cfg.inUse then
          b.setMotion c (b.lamp c).cfg.motionLevel (some (b.now + b.lights.motionHold * 1000))
        else b) b).settle

/-! ### Handing on (R29) -/

/-- The slot that the fleet configuration ties to a source (R29). -/
def Garden.slotOf (g : Garden) (src : SourceId) : Option Slot :=
  allSlots.find? (fun k => (g.slot k).cfg.source = some src)

/-- A good frame handed on to the block or blocks for its kind; a mower's frame that no slot names is
handed to no block (R29). -/
def Garden.deliver (g : Garden) (src : SourceId) (fr : FieldFrame) : Garden :=
  match fr.read with
  | none => g
  | some (.position rx ry battery echo lifted docked) =>
    match g.slotOf src with
    | some k => g.takePosition k fr.sequence fr.fresh rx ry ⟨battery, echo, lifted, docked⟩
    | none => g
  | some (.obstacle rx ry) =>
    match g.slotOf src with
    | some _ => g.takeObstacle rx ry
    | none => g
  | some (.mowerFault code) =>
    match g.slotOf src with
    | some k => g.takeMowerFault k code
    | none => g
  | some .motion => g.on (·.takeMotion src)
  | some (.wind v) => g.on (·.takeWind v)
  | some (.rain wet) => g.takeRain wet
  | some (.dusk lux) => g.on (·.takeDusk lux)

/-- A frame ends on a line: classified, counted, and handed on if it is good (R21, R29, R30). -/
def Garden.frameEnd (g : Garden) (l : Line) : Garden :=
  if (g.field.rx.get l).gathering then
    let out := g.field.endFrame l g.time.secs
    let g := { g with field := out.1 }
    match out.2.good with
    | some (src, _, fr) => g.deliver src fr
    | none => g
  else g

end Sys2Proof.Machine
end

