-- ==== Sys2Proof/Machine/Start.lean ====
section
/-! DEFINITION. The start of the part: the configuration snapshot and load, the checks on leaving SETUP,
power-on and the WATER restart's runtime state, and the backwash start (R17, R35, R51, R74, R100, R121,
R126, R127, R148, R164, R178, R180, R187–R189). -/

namespace Sys2Proof.Machine

/-! ### Backwash start (R121) -/

/-- The cells of the discharge zone that each mower loses when DISCHARGE is set (R13). -/
def Garden.dischargeLosses (g : Garden) (k : Slot) : List CellAddr :=
  match g.ground.dischargeZone with
  | none => []
  | some z => claimedBy k (g.ground.cellsOf z)

/-- The backwash starts (R121): filter and supply first, then GM's mark and its notices, FILTER_STATE last. -/
def Garden.startBackwash (g : Garden) : Garden :=
  let old := g.water.filter
  let f := { old with
    state := .backwash, step := g.water.cfg.minStep, powerLimited := false, marginal := false, limit := none,
    lockFom := none, search := none, monitor := none, gate := none, zeroFlow := 0,
    backwashExpiry := some (g.now + g.water.cfg.filter.backwashTime * 1000) }
  let g := g.on (fun b => (b.putFilter f).reformSupply)
  let lost := g.dischargeLosses
  let g := (g.onMap (·.setDischarge)).revokeNotices lost
  (g.on (fun b => (b.postFilter).reportFilter old)).settle

/-- What a backwash that is asked for comes to (R121). -/
inductive BackwashOutcome | started | clogPersists | valveTripped
  deriving DecidableEq, Repr

/-- The spacing and valve tests (R121). -/
def Bench.backwashTest (b : Bench) : BackwashOutcome :=
  if b.water.filter.lastBackwashEnd.any (fun t => decide (b.now < t + b.water.cfg.filter.backwashSpacing * 3600000))
  then .clogPersists
  else if b.power.fnTripped .backwashValve then .valveTripped
  else .started

/-- The cause with which a backwash is asked for (R121). -/
def Bench.noteBackwash (b : Bench) (cause : BackwashCause) : Bench :=
  b.setWater { b.water with filter := { b.water.filter with backwashCause := some cause } }

/-- A backwash asked for with a cause: tested, and started or turned into a fault (R121). -/
def Garden.askBackwash (g : Garden) (cause : BackwashCause) : Garden :=
  let g := g.on (·.noteBackwash cause)
  match g.backwashTest with
  | .started => g.startBackwash
  | .clogPersists => (g.on (fun b => b.moveFilter (b.water.filter.halted (.fault .clogPersists)))).settle
  | .valveTripped => (g.on (fun b => b.moveFilter (b.water.filter.halted (.fault .channelTrip)))).settle

/-! ### The checks on leaving SETUP (R178, R187) -/

/-- The channel types that match a function (R173). -/
def typeMatches (f : Fn) (t : ChannelType) : Bool :=
  match f, t with
  | .filterPump, .relay => false
  | .filterPump, _ => true
  | .backwashValve, t => t = .relay
  | .topupValve, t => t = .relay
  | .fountainPump, .relay => false
  | .fountainPump, _ => true
  | .nozzle _, t => t = .proportional
  | .charger _, .relay => false
  | .charger _, _ => true
  | .light _, t => t = .pwm

/-- A function is used (R178). -/
def Bench.used (b : Bench) : Fn → Bool
  | .filterPump => true
  | .backwashValve => true
  | .topupValve => true
  | .fountainPump => true
  | .nozzle _ => true
  | .charger k => (b.slot k).cfg.source.isSome
  | .light c => (b.lamp c).cfg.inUse

/-- The failing item of one function, if it fails (R178). -/
def Bench.channelItem (b : Bench) (f : Fn) : Option FailItem :=
  if b.used f then
    match b.power.channelOf f with
    | none => some (.unbound f)
    | some c =>
      if typeMatches f (b.channel c).cfg.type then none else some (.wrongType f c (b.channel c).cfg.type)
  else none

/-- The failing item of a slot, if it fails (R187). -/
def Garden.fleetItem (g : Garden) (k : Slot) : Option FailItem :=
  match (g.slot k).cfg.source with
  | none => none
  | some src =>
    match tget g.field.sources src with
    | some e => if e.cfg.kind = .mower then none else some (.fleetSource k src)
    | none => some (.fleetSource k src)

/-- The first failing item of the two checks of MODE_RUN (R178, R187). -/
def Garden.runItem (g : Garden) : Option FailItem :=
  match allFns.findSome? g.channelItem with
  | some i => some i
  | none => allSlots.findSome? g.fleetItem

/-! ### The configuration (10.3) -/

/-- The configuration as it stands (R188). -/
def Garden.snapshot (g : Garden) : Settings where
  cellZones := g.ground.grid.filterMap (fun p => p.2.zone.map (fun z => (p.1, z)))
  zones := g.ground.zones.map Zone.cfg
  sources := g.field.sources.map (Option.map Source.cfg)
  coeffs := g.position.coeffs
  fleet := ⟨g.fleet.s0.cfg, g.fleet.s1.cfg, g.fleet.s2.cfg⟩
  plan := g.planner.cfg
  water := g.water.cfg
  shows := g.shows.cfg
  lateTime := g.lights.lateTime
  motionHold := g.lights.motionHold
  motionMap := g.lights.motionMap
  circuits := g.lights.circuits.map LampCircuit.cfg
  supply := g.power.cfg
  channels := g.power.channels.map Channel.cfg

/-- The generation after one (R188). -/
def nextGeneration (n : Nat) : Nat := if n = 4294967295 then 1 else n + 1

/-- Whether generation `a` is newer than `b` (R189). -/
def newerGeneration (a b : Nat) : Bool :=
  if a = 1 ∧ b = 4294967295 then true
  else if b = 1 ∧ a = 4294967295 then false
  else decide (b < a)

/-- The newest valid copy, with which copy it is (R189). -/
def Store.newest (s : Store) : Option (CopyId × StoreCopy) :=
  match s.one, s.two with
  | some a, some b => if newerGeneration b.generation a.generation then some (.two, b) else some (.one, a)
  | some a, none => some (.one, a)
  | none, some b => some (.two, b)
  | none, none => none

/-- The store generation: 0 when neither copy is valid (10.3). -/
def Store.generation (s : Store) : Nat :=
  match s.newest with
  | some (_, c) => c.generation
  | none => 0

/-- Write or invalidate a copy. -/
def Store.put (s : Store) (which : CopyId) (c : Option StoreCopy) : Store :=
  match which with
  | .one => { s with one := c }
  | .two => { s with two := c }

/-! ### The Water Unit's start (R126, R127) -/

/-- The filter's first record: STARVED, or SEARCHING with a search from step m (R126). -/
def WaterUnit.firstFilter (w : WaterUnit) : Filter :=
  if w.starved then { Filter.start with state := .starved } else Filter.start.toSearching w.cfg

/-- WU before it has read the level. -/
def WaterUnit.blank (c : WaterCfg) (secs : Nat) : WaterUnit :=
  ⟨c, 0, false, false, false, .closed, 0, secs, Filter.start, ⟨false, false, false⟩⟩

/-- WU at power-on: the level read, the flags set, the filter, top-up and supply as starting values, and
the asks posted; PW's first allocation answers them, and runs where every ask is 0 too (R126, R180). -/
def Bench.startWater (b : Bench) (level : Nat) : Bench :=
  let w := (WaterUnit.blank b.water.cfg 0).withLevel level
  let w := { w with causes := ⟨w.supplyLow, false, false⟩, filter := w.firstFilter }
  let b := b.setWater w
  let b := { b with shows := { b.shows with dry := b.withheld } }
  let b := if w.demand then
      (if w.cfg.capMinutes = 0 then b.moveTopup .capped else b.moveTopup .waitPower)
    else b
  b.postFilter.callAllocation.settle

/-- The WATER restart (R127). A pump that was running goes on at its step until the first Raising of the new
search is answered, in the same step (R106; assumption log 41). The reports come in the order TOPUP_CAPPED,
FOUNTAIN_SUPPLY, FILTER_STATE (DESIGN CHOICE, assumption log 83). -/
def Bench.restartWater (b : Bench) (level : Nat) : Bench :=
  let old := b.water.filter
  let b := if old.state = .backwash then { b with ground := b.ground.startDrain b.drainExpiry } else b
  let w := (WaterUnit.blank b.water.cfg b.time.secs).withLevel level
  let first := if b.power.fnTripped .filterPump then Filter.start.halted (.fault .channelTrip)
    else { w.firstFilter with step := if w.starved then 0 else old.step }
  let b := b.setWater { w with topup := b.water.topup, causes := b.water.causes, filter := old }
  let b := (b.putFilter first).moveTopup .closed
  let b := if b.power.fnTripped .topupValve then b.moveTopup .tripped else b.takeDemand
  (b.reformSupply.reportFilter old).postFilter.settle

/-! ### Power-on (R189) -/

/-- The bench with a configuration loaded and every runtime item at its starting value, WU not yet
started (R17, R74, R148, R164, R180). -/
def Bench.loaded (c : Settings) : Bench where
  time := ⟨0, 0⟩
  clock := none
  reports := ⟨[], 0, allReports⟩
  ground := ⟨c.cellZones.map (fun p => (p.1, ⟨some p.2, none, false, none⟩)), c.zones.map Zone.fresh, []⟩
  fleet := ⟨FleetSlot.start c.fleet.s0, FleetSlot.start c.fleet.s1, FleetSlot.start c.fleet.s2⟩
  water := WaterUnit.blank c.water 0
  shows := ShowUnit.start c.shows false
  lights := ⟨c.lateTime, c.motionHold, c.motionMap, c.circuits.map LampCircuit.start, .day, none, none, false, false⟩
  power := ⟨c.supply, c.supply.capacity, 0, 0, 0, Vector.replicate 18 Load.zero, Totals.zero,
    c.channels.map Channel.start, false⟩
  freeDrawn := 0

/-- The garden with a configuration loaded (R35, R51, R100). -/
def Garden.loaded (c : Settings) : Garden where
  toBench := Bench.loaded c
  mode := .setup
  field := ⟨⟨FieldRx.idle, FieldRx.idle⟩, c.sources.map (Option.map Source.fresh), FieldCounters.zero,
    FieldCounters.zero, 0, Transmit.empty⟩
  position := ⟨c.coeffs, ⟨Track.empty, Track.empty, Track.empty⟩,
    ⟨StakeRec.unset, StakeRec.unset, StakeRec.unset⟩, none⟩
  planner := Planner.start c.plan

/-- The start from the newest valid copy, or from the factory defaults: the mode by the checks of MODE_RUN,
the start report first, then WU's start with PW's first allocation (R189). -/
def Garden.boot (s : Store) (level : Nat) : Garden :=
  let g :=
    match s.newest with
    | some (_, c) =>
      let g := Garden.loaded c.settings
      let item := g.runItem
      { g with mode := if item.isNone then .run else .setup }.on (·.post (.started c.generation item))
    | none => (Garden.loaded Settings.factory).on (·.post .settingsLost)
  g.on (·.startWater level)

/-- The part started from its store: link fresh, no write under way (R189). The waiting commands stay. -/
def State.boot (s : State) (level : Nat) : State where
  toGarden := Garden.boot s.store level
  link := Link.start
  store := { s.store with writing := none }
  pending := s.pending

end Sys2Proof.Machine
end

