-- ==== Sys2Proof/Machine/Link.lean ====
section
/-! DEFINITION. The Host Link: the receiver, the request queue, and how a request command is served:
the checks of R185, the owner's answer, the reply (R182–R185). -/

namespace Sys2Proof.Machine

/-! ### The receiver (R182, R183) -/

/-- The limit of a link counter (R183). -/
def linkCounterLimit : Nat := 65535

/-- The receiver hunting for a SYNC byte. -/
def HostRx.hunting : HostRx := ⟨.hunting, 0, [], false⟩

/-- A good request offered to the request queue (R184). -/
def Link.offer (l : Link) (q : QueuedRequest) : Link :=
  if l.queue.length < 4 then { l with queue := l.queue ++ [q] }
  else { l with counters := { l.counters with queueFull := bump linkCounterLimit l.counters.queueFull } }

/-- A frame whose CRC or bytes are bad is dropped (R183). -/
def Link.dropBadCrc (l : Link) : Link :=
  { l with rx := HostRx.hunting, counters := { l.counters with badCrc := bump linkCounterLimit l.counters.badCrc } }

/-- A frame is complete: its CRC checked over LEN through the last body byte, and the request offered (R183). -/
def Link.finishFrame (l : Link) (r : HostRx) : Link :=
  let n := r.taken.length - 2
  let covered := BitVec.ofNat 8 r.len :: r.taken.take n
  if r.damaged = true ∨ r.taken.drop n ≠ crcBytes (crc16 covered) then l.dropBadCrc
  else
    match r.taken.take n with
    | kind :: tag :: body =>
      { l with rx := HostRx.hunting,
               counters := { l.counters with good := bump linkCounterLimit l.counters.good } }.offer ⟨kind, tag, body⟩
    | _ => l.dropBadCrc

/-- A byte on HRXD (R183). The damage mark counts a stop-bit error on any byte of the frame. -/
def Link.takeByte (l : Link) (byte : Byte) (stopError : Bool) : Link :=
  match l.rx.state with
  | .hunting => if byte = 0xC3 then { l with rx := ⟨.length, 0, [], stopError⟩ } else l
  | .length =>
    if 200 < byte.toNat then
      { l with rx := HostRx.hunting,
               counters := { l.counters with badLength := bump linkCounterLimit l.counters.badLength } }
    else { l with rx := ⟨.gathering, byte.toNat, [], l.rx.damaged || stopError⟩ }
  | .gathering =>
    let r := { l.rx with taken := l.rx.taken ++ [byte], damaged := l.rx.damaged || stopError }
    if r.len + 4 ≤ r.taken.length then l.finishFrame r else { l with rx := r }

/-- A silence of 10 ms in LENGTH or GATHERING (R183). -/
def Link.silence (l : Link) : Link :=
  match l.rx.state with
  | .hunting => l
  | .length =>
    { l with rx := HostRx.hunting,
             counters := { l.counters with truncated := bump linkCounterLimit l.counters.truncated } }
  | .gathering =>
    { l with rx := HostRx.hunting,
             counters := { l.counters with truncated := bump linkCounterLimit l.counters.truncated } }

/-- The last byte of the reply has been sent: the request leaves the queue (R184). -/
def Link.replySent (l : Link) : Link :=
  if l.answered then { l with queue := l.queue.drop 1, answered := false } else l

/-! ### Serving a request (R184, R185) -/

/-- An owner's answer: ACCEPTED with the reply's fields, or REFUSED with a reason and its detail. -/
inductive Answer | accepted (fields : List Field) | refused (r : Reason) (detail : List Field)
  deriving DecidableEq, Repr

/-- The reply that carries an answer. -/
def Answer.reply (a : Answer) (tag : Option Byte) : Reply :=
  match a with
  | .accepted fields => ⟨tag, .accepted, fields⟩
  | .refused r detail => ⟨tag, .refused r, detail⟩

/-- What a request kind does when it is decided: the state after it, and its answer. -/
abbrev Decision := State × Answer

/-- Serve a request command (R184): with no request in the queue it stands for one that arrives and is
decided at once; otherwise it is the decision of the request in service, which must be undecided and have
this kind and body. A command that fits neither changes nothing (assumption log 2). The request stays in
service, answered, until REPLY_SENT, unless RESTART has emptied the queue. -/
def State.serve (s : State) (kind : Nat) (spells : List Byte → Bool) (act : State → Decision) : State :=
  match s.link.queue with
  | [] =>
    let d := act s
    { d.1 with link := { d.1.link with reply := some (d.2.reply none) } }
  | q :: _ =>
    if s.link.answered = false ∧ q.kind.toNat = kind ∧ spells q.body then
      let d := act s
      { d.1 with link :=
          { d.1.link with answered := !d.1.link.queue.isEmpty, reply := some (d.2.reply (some q.tag)) } }
    else s

/-- How the mode and the store gate a request kind (R185). -/
inductive Access | config | both | runOnly
  deriving DecidableEq, Repr

/-- The mode and store checks of R185. -/
def State.gate (s : State) (a : Access) : Option Reason :=
  match a with
  | .config => if s.mode = .run then some .wrongMode else if s.store.writing.isSome then some .busy else none
  | .both => none
  | .runOnly => if s.mode = .setup then some .wrongMode else none

/-- The body, mode and store checks of R185 in order, then the owner's own decision. -/
def State.checked {α : Type} (s : State) (a : Access) (body : Body α) (act : α → State → Decision) : Decision :=
  match body with
  | .wrongLength => (s, .refused .badBody [])
  | .fields x =>
    match s.gate a with
    | some r => (s, .refused r [])
    | none => act x s

/-- A request command with its body's reader (R185). -/
def State.requestFull {α : Type} [DecidableEq α] (s : State) (kind : Nat) (r : Reader α) (a : Access)
    (body : Body α) (act : α → State → Decision) : State :=
  s.serve kind (fun bytes => decide (readBody r bytes = body)) (fun s => s.checked a body act)

/-- A request whose owner acts within the garden. -/
def State.request {α : Type} [DecidableEq α] (s : State) (kind : Nat) (r : Reader α) (a : Access)
    (body : Body α) (act : α → Garden → Garden × Answer) : State :=
  s.requestFull kind r a body (fun x s => let d := act x s.toGarden; ({ s with toGarden := d.1 }, d.2))

/-- A UNIT_RESTART command, by the unit's code (R193). -/
def State.unitRestart (s : State) (unit : Nat) (body : Body UnitRef) (act : Garden → Garden) : State :=
  s.serve 0x14 (unitBodyIs unit body) (fun s => s.checked .both body (fun u s =>
    match u with
    | .thisUnit => ({ s with toGarden := act s.toGarden }, .accepted [u1 unit])
    | .noSuchUnit => (s, .refused .noSuch [])))

/-- An event inside the garden. -/
def State.event (s : State) (f : Garden → Garden) : State := { s with toGarden := f s.toGarden }

/-- An event whose instant is an expiry. Without one, or before the running time has reached the second that it
lies in, the command finds nothing to take and changes nothing (R62 says so of a deadline that has moved on).
Otherwise the running time moves up to the expiry within the present second (assumption log 1). -/
def State.eventAt (s : State) (t : Option Nat) (f : Garden → Garden) : State :=
  match t with
  | none => s
  | some t => if s.reached t then s.event (fun g => f (g.on (·.reach t))) else s

/-- An answer that changes nothing. -/
def Garden.refuse (g : Garden) (r : Reason) : Garden × Answer := (g, .refused r [])

/-- A query's answer. -/
def Garden.tell (g : Garden) (fields : List Field) : Garden × Answer := (g, .accepted fields)

/-- A paged query's answer: the page, or NO_SUCH at or beyond the page count (R185). -/
def Garden.tellPage (g : Garden) (fields : List Field) (page : Nat) : Garden × Answer :=
  match pageOf fields page with
  | some f => (g, .accepted f)
  | none => (g, .refused .noSuch [])

/-- The numbered record that a request names, or NO_SUCH (R185). -/
def Garden.named {ι : Type} (g : Garden) (i : Option ι) (f : ι → Garden × Answer) : Garden × Answer :=
  match i with
  | some i => f i
  | none => g.refuse .noSuch

end Sys2Proof.Machine
end

