-- ==== Sys2Proof/Machine/FieldCommands.lean ====
section
/-! DEFINITION. The commands of Field Lines: SOURCE_SET, SOURCE_REMOVE, SOURCE_GET, COUNTERS_CAPTURE, the
FIELD restart, received bytes, the end of a frame and the end of an order's air time. -/

namespace Sys2Proof.Machine

/-- Replace a source table entry. -/
def Garden.setSource (g : Garden) (i : SourceId) (x : Option Source) : Garden :=
  { g with field := { g.field with sources := tset g.field.sources i x } }

/-- Once no WIND source is left in the source table, v is absent and w is 1,000 (R142). -/
def Garden.reviewWind (g : Garden) (before : Bool) : Garden :=
  if before = true ∧ g.field.hasKind .wind = false then g.on Bench.clearWind else g

/-- A silence whose sources have changed so that it holds no longer has ended: the wind is not silent any more,
with w as it stands until the next WIND delivery, and a later dusk or rain silence has an onset of its own. The
dusk and rain flags clear at a delivery only (R96, R142, R151; assumption log 26). -/
def Garden.reviewSilence (g : Garden) : Garden :=
  { g.on (fun b => { b with
      shows := { b.shows with windSilent := b.shows.windSilent && g.silentFor .wind windLimit },
      lights := { b.lights with onset := b.lights.onset && g.silentFor .dusk duskLimit } }) with
    planner := { g.planner with rainOnset := g.planner.rainOnset && g.silentFor .rain rainLimit } }

/-- A changed source table, with what follows at SE, LU and MP. -/
def Garden.changeSource (g : Garden) (i : SourceId) (x : Option Source) : Garden :=
  ((g.setSource i x).reviewWind (g.field.hasKind .wind)).reviewSilence

/-- The entry of R23 with its window of R26, as SOURCE_SET's reply gives it; the accepted set as a group of
sequences in the order in which they were accepted (assumption log 42). -/
def Source.entryFields (x : Source) (i : SourceId) : List Field :=
  [u1 (i.val + 1), u1 (sourceKindCode x.cfg.kind), u1 (bindingCode x.cfg.binding), optField u4 x.lastHeard,
    optField u2 x.window.newest] ++ groupFields x.window.accepted (fun n => [u2 n]) ++ [optField u2 x.window.fresh]

/-- What SOURCE_GET tells of an entry (R25). -/
def Source.fields (x : Source) (secs : Nat) : List Field :=
  [u1 (sourceKindCode x.cfg.kind), u1 (bindingCode x.cfg.binding), optField u4 (x.lastHeard.map (secs - ·)),
    optField u2 x.window.newest, u1 x.window.accepted.length, flag x.window.fresh.isSome]

/-- The entry that SOURCE_SET leaves (R24). -/
def sourceAfter (old : Option Source) (c : SourceCfg) : Source :=
  match old with
  | none => Source.fresh c
  | some x => if x.cfg = c then x else { x with cfg := c, window := Window.empty }

/-- SOURCE_SET's checks and effect (R24). R24 gives its two refusals no order; a number out of range comes first
(DESIGN CHOICE, assumption log 55). -/
def Garden.sourceSet (q : SourceSet) (g : Garden) : Garden × Answer :=
  g.named (index? 40 q.source) (fun i =>
    match q.kind, q.binding with
    | .named kind, .named binding =>
      let x := sourceAfter (tget g.field.sources i) ⟨kind, binding⟩
      (g.changeSource i (some x)).tell (x.entryFields i)
    | _, _ => g.refuse .badBody)

/-- SOURCE_SET (R24). -/
def execSourceSet (body : Body SourceSet) (s : State) : Host.Outcome State Fault Refusal :=
  .next (s.request 0x1F rSourceSet .config body Garden.sourceSet)

/-- The entry of a source number, or NO_SUCH (R25). -/
def Garden.withSource (g : Garden) (q : Nat) (f : SourceId → Source → Garden × Answer) : Garden × Answer :=
  g.named (index? 40 q) (fun i =>
    match tget g.field.sources i with
    | some x => f i x
    | none => g.refuse .noSuch)

/-- SOURCE_REMOVE (R25). -/
def execSourceRemove (body : Body Nat) (s : State) : Host.Outcome State Fault Refusal :=
  .next (s.request 0x20 r1 .config body (fun q g => g.withSource q (fun i _ =>
    (g.changeSource i none).tell [])))

/-- SOURCE_GET (R25). -/
def execSourceGet (body : Body Nat) (s : State) : Host.Outcome State Fault Refusal :=
  .next (s.request 0x21 r1 .both body (fun q g => g.withSource q (fun _ x => g.tell (x.fields g.time.secs))))

/-- The nine counters of a line (R30). -/
def LineCounters.fields (c : LineCounters) : List Field :=
  [u4 c.received, u4 c.runt, u4 c.oversize, u4 c.badCrc, u4 c.unknownSource, u4 c.wrongLine, u4 c.duplicate,
    u4 c.stale, u4 c.good]

/-- The 22 counters (R30, R31): each 4 bytes, and no count byte before a line's nine or before the whole (DESIGN
CHOICE, assumption log 65). -/
def FieldCounters.fields (c : FieldCounters) : List Field :=
  c.lineA.fields ++ c.lineB.fields ++ [u4 c.sentUrgent, u4 c.sentNormal, u4 c.droppedUrgent, u4 c.droppedNormal]

/-- COUNTERS_CAPTURE (R31). -/
def execCountersCapture (body : Body Unit) (s : State) : Host.Outcome State Fault Refusal :=
  .next (s.request 0x22 rNone .both body (fun _ g =>
    { g with field := g.field.captureCounters g.time.secs }.tell
      (g.field.live.fields ++ [u4 (g.time.secs - g.field.captureFrom)])))

/-- UNIT_RESTART of the unit FIELD (R36, R48). -/
def execUnitRestartField (body : Body UnitRef) (s : State) : Host.Outcome State Fault Refusal :=
  .next (s.unitRestart 1 body (fun g => { g with field := g.field.restart }.failCapture .fieldRestart))

/-- FIELD_FRAME_END (R21). -/
def execFieldFrameEnd (line : Line) (s : State) : Host.Outcome State Fault Refusal :=
  .next (s.event (·.frameEnd line))

/-- FIELD_BYTE_RECEIVED (R18). -/
def execFieldByteReceived (line : Line) (byte : Byte) (stopError : Bool) (s : State) :
    Host.Outcome State Fault Refusal :=
  .next (s.event (fun g =>
    { g with field := { g.field with rx := g.field.rx.put line ((g.field.rx.get line).take byte stopError) } }))

/-- ORDER_AIR_TIME_END (R34). -/
def execOrderAirTimeEnd (s : State) : Host.Outcome State Fault Refusal :=
  .next (s.eventAt (s.field.tx.inFlight.map Flight.ends) (fun g => { g with field := g.field.airTimeEnd g.now }))

end Sys2Proof.Machine
end

