-- ==== Sys2Proof/Machine/FleetCommands.lean ====
section
/-! DEFINITION. The Fleet Unit's commands: FLEET_SET, MOWER_GET, the host commands for mowers, the
heartbeat expiry and the FLEET restart (R52, R53, R62, R70–R75). -/

namespace Sys2Proof.Machine

/-! ### FLEET_SET (R52) -/

/-- Replace a slot's configuration. -/
def Bench.setFleetCfg (b : Bench) (k : Slot) (c : FleetCfg) : Bench :=
  { b with fleet := b.fleet.put k { b.fleet.get k with cfg := c } }

/-- A capture that runs on a slot fails because the slot changed (R48). -/
def Garden.failCaptureOn (g : Garden) (k : Slot) : Garden :=
  match g.position.capture with
  | some c => if c.slot = k then g.failCapture .slotChanged else g
  | none => g

/-- A slot bound to another source: leaving effects, context as at power-on, ABSENT, the track record
empty, a capture on the slot failed (R39, R48, R52). CALIBRATION_FAILED is posted after MOWER_STATE (DESIGN CHOICE,
assumption log 77). -/
def Garden.rebind (g : Garden) (k : Slot) (c : FleetCfg) : Garden :=
  let g := g.leave k
  let was := (g.mower k).state
  let g := (g.on (·.setFleetCfg k c)).editMower k (fun _ => { MowerCtx.start with state := was })
  ((g.setTrack k Track.empty).enter k .absent).failCaptureOn k

/-- Whether another slot names a source (R52). -/
def Bench.namedElsewhere (b : Bench) (k : Slot) (src : SourceId) : Bool :=
  allSlots.any (fun j => decide (j ≠ k ∧ (b.slot j).cfg.source = some src))

/-- A slot's source number: 0 while unbound (R52). -/
def sourceNo (x : Option SourceId) : Nat :=
  match x with
  | none => 0
  | some i => i.val + 1

/-- The five configuration fields (R52). -/
def FleetCfg.fields (c : FleetCfg) : List Field :=
  [u1 (sourceNo c.source), u2 c.ratedWatts, u1 c.timeout, u1 c.dispatchLevel, u1 c.homeboundLevel]

/-- The configuration that a FLEET_SET gives after clamping (R52). -/
def fleetCfgOf (q : FleetSet) : FleetCfg :=
  ⟨index? 40 q.source, clamp 20 300 q.ratedWatts, clamp 3 30 q.timeout, clamp 10 100 q.dispatchLevel,
    clamp 5 95 q.homeboundLevel⟩

/-- A taken FLEET_SET (R52); a new rated-watts value re-posts the charger ask (assumption log 15). -/
def Garden.applyFleet (g : Garden) (k : Slot) (c : FleetCfg) : Garden :=
  if c.source = (g.slot k).cfg.source then (g.on (·.setFleetCfg k c)).on (·.tendCharger k) else g.rebind k c

/-- FLEET_SET's checks and effect (R52). -/
def Garden.fleetSet (q : FleetSet) (g : Garden) : Garden × Answer :=
  g.named (slotOf? q.slot) (fun k =>
    if 40 < q.source then g.refuse .noSuch
    else if (fleetCfgOf q).dispatchLevel ≤ (fleetCfgOf q).homeboundLevel then g.refuse .inconsistent
    else if (fleetCfgOf q).source.any (g.namedElsewhere k) then g.refuse .inconsistent
    else (g.applyFleet k (fleetCfgOf q)).tell (fleetCfgOf q).fields)

/-- FLEET_SET (R52). -/
def execFleetSet (body : Body FleetSet) (s : State) : Host.Outcome State Fault Refusal :=
  .next (s.request 0x26 rFleetSet .config body Garden.fleetSet)

/-! ### MOWER_GET (R39, R53, R83) -/

/-- The lane fields of GO_LANE. -/
def LaneFields.fields (f : LaneFields) : List Field :=
  [u2 f.startX, u2 f.startY, u2 f.endX, u2 f.endY, u1 f.cutHeight]

/-- The outstanding order (R53). Its lane fields, which only a GO_LANE has, take one presence byte for the group
(DESIGN CHOICE, assumption log 72). -/
def Outstanding.fields (o : Outstanding) : List Field :=
  [u1 o.number, u1 o.kind.code] ++
    (match o.kind with
      | .goLane f => [1] :: f.fields
      | .hold => [[0]]
      | .resume => [[0]]
      | .returnHome => [[0]]
      | .stop => [[0]]) ++ [u1 o.resends]

/-- The cells of the claim window (R83). -/
def Lane.windowCells (l : Lane) : List CellAddr := (l.cells.drop l.current).take l.window

/-- A lane record (R83). -/
def Lane.fields (l : Lane) (k : Slot) : List Field :=
  [u1 (slotNo k), u1 (l.zone.val + 1), u1 l.row.val, u1 l.direction.code] ++
    groupFields l.cells (fun a => [cellField a]) ++ [u1 l.current] ++
    groupFields l.windowCells (fun a => [cellField a]) ++
    [u2 l.startX, u2 l.startY, u2 l.endX, u2 l.endY, optField u4 l.arrival]

/-- A track record (R39). A row that names two values (raw, garden, lookup) takes one presence byte for the pair
(DESIGN CHOICE, assumption log 44). -/
def Track.fields (t : Track) : List Field :=
  [optField u2 t.sequence] ++
    optFields (fun p : Int × Int => [signedField 2 p.1, signedField 2 p.2]) t.raw ++
    optFields (fun p : Int × Int => [signedField 4 p.1, signedField 4 p.2]) t.garden ++
    optFields (fun p : Nat × Nat => [u2 p.1, u2 p.2]) t.lookup ++
    [optField cellField t.cell, u1 (zoneNo t.zone), flag t.edge, flag t.offMap, u2 t.tracker, optField u4 t.time]

/-- The zone assigned to a slot (R53). -/
def Bench.assignedZone (b : Bench) (k : Slot) : Option ZoneId :=
  (List.finRange 48).find? (fun z => (b.ground.zone z).assigned = some k)

/-- A mower context with the lane, the set-aside cells and the yield record (R53, R83). -/
def Garden.contextFields (g : Garden) (k : Slot) : List Field :=
  let x := g.mower k
  [u1 x.state.code, optField u1 x.state.cause?, optField u1 x.battery, flag x.lastDocked, flag x.lastLifted,
    flag x.departed, u1 x.lastEcho, u1 x.nextOrder] ++ optFields Outstanding.fields x.outstanding ++
    [optField u1 (x.deadline.map g.secsLeft), optField u4 x.lastHeard,
      optField (fun z : ZoneId => u1 (z.val + 1)) (g.assignedZone k)] ++
    optFields (fun l : Lane => l.fields k) (g.lane k) ++
    groupFields (g.planner.setAside.get k) (fun a => [cellField a]) ++
    optFields (fun y : Yield => [cellField y.cell, u1 (g.secsLeft y.expiry)]) (g.planner.yields.get k) ++
    [optField u1 x.faultCode]

/-- The dock record (R53, R69). -/
def Bench.dockFields (b : Bench) (k : Slot) : List Field :=
  [u2 (b.slot k).cfg.ratedWatts, u2 (b.load (chargerLoad k)).askA, u2 (b.load (chargerLoad k)).grantA,
    u2 (b.slot k).chargerLevel]

/-- What MOWER_GET tells (R53). -/
def Garden.mowerFields (g : Garden) (k : Slot) : List Field :=
  (g.slot k).cfg.fields ++ g.contextFields k ++ g.dockFields k ++ (g.track k).fields

/-- MOWER_GET (R53). -/
def execMowerGet (body : Body PagedGet) (s : State) : Host.Outcome State Fault Refusal :=
  .next (s.request 0x27 rPaged .both body (fun q g =>
    g.named (slotOf? q.number) (fun k => g.tellPage (g.mowerFields k) q.page)))

/-! ### Host commands for mowers (R70–R73) -/

/-- A mower's state and cause, as a reply or a refusal gives them (4.9). -/
def Garden.stateFields (g : Garden) (k : Slot) : List Field :=
  [u1 (g.mower k).state.code, optField u1 (g.mower k).state.cause?]

/-- A command that does not fit the mower's state (4.9). -/
def Garden.misfit (g : Garden) (k : Slot) : Garden × Answer := (g, .refused .inconsistent (g.stateFields k))

/-- A command taken: the state and cause after it (4.9). -/
def Garden.taken (g : Garden) (k : Slot) : Garden × Answer := g.tell (g.stateFields k)

/-- The bound slot that a mower command names, or NO_SUCH (4.9). -/
def Garden.bound (g : Garden) (q : Nat) (f : Slot → Garden × Answer) : Garden × Answer :=
  g.named (slotOf? q) (fun k => if (g.slot k).cfg.source.isNone then g.refuse .noSuch else f k)

/-- MOWER_HOLD by state (R70). -/
def Garden.holdMower (g : Garden) (k : Slot) : Garden × Answer :=
  match (g.mower k).state with
  | .mowing => ((g.enter k (.paused .hold)).postOrder k .hold).taken k
  | .paused .hold => g.taken k
  | _ => g.misfit k

/-- MOWER_HOLD (R70). -/
def execMowerHold (body : Body Nat) (s : State) : Host.Outcome State Fault Refusal :=
  .next (s.request 0x28 r1 .both body (fun q g => g.bound q g.holdMower))

/-- MOWER_RELEASE by state (R70). -/
def Garden.releaseMower (g : Garden) (k : Slot) : Garden × Answer :=
  match (g.mower k).state with
  | .paused .hold => ((g.enter k .mowing).postOrder k .resume).taken k
  | .mowing => g.taken k
  | _ => g.misfit k

/-- MOWER_RELEASE (R70). -/
def execMowerRelease (body : Body Nat) (s : State) : Host.Outcome State Fault Refusal :=
  .next (s.request 0x29 r1 .both body (fun q g => g.bound q g.releaseMower))

/-- MOWER_RECALL by state (R71). -/
def Garden.recallMower (g : Garden) (k : Slot) : Garden × Answer :=
  if (g.mower k).state.working then (g.goHome k .recall).taken k
  else
    match (g.mower k).state with
    | .homebound _ => g.taken k
    | _ => g.misfit k

/-- MOWER_RECALL (R71). -/
def execMowerRecall (body : Body Nat) (s : State) : Host.Outcome State Fault Refusal :=
  .next (s.request 0x2A r1 .both body (fun q g => g.bound q g.recallMower))

/-- MOWER_CLEAR_FAULT by state (R73). -/
def Garden.clearMower (g : Garden) (k : Slot) : Garden × Answer :=
  if (g.mower k).state.isFaulted then
    let g := g.editMower k (fun x => { x with outstanding := none })
    if (g.mower k).lastDocked then (g.enter k .docked).taken k
    else (((g.enter k (.paused .recovered)).restartDeadline k).recover k).taken k
  else g.misfit k

/-- MOWER_CLEAR_FAULT (R73). -/
def execMowerClearFault (body : Body Nat) (s : State) : Host.Outcome State Fault Refusal :=
  .next (s.request 0x2B r1 .both body (fun q g => g.bound q g.clearMower))

/-- A MOWER_DISPATCH answered: the state and cause after it (4.9), then the outcome and what it carries (R72;
assumption log 16). -/
def Garden.outcome (g : Garden) (k : Slot) (fields : List Field) : Garden × Answer :=
  g.tell (g.stateFields k ++ fields)

/-- The zone and the first and last cells of a lane (R72). -/
def Lane.ends (l : Lane) : List Field :=
  u1 (l.zone.val + 1) :: (l.cells.head?.toList ++ l.cells.getLast?.toList).map cellField

/-- MOWER_DISPATCH by state: the outcome, and the lane where one is given. Only DISPATCHED changes any state: a walk
that ends without a lane leaves no round completed (R72). -/
def Garden.dispatchMower (g : Garden) (k : Slot) : Garden × Answer :=
  if (g.mower k).state.atDock = false then g.outcome k [u1 1]
  else if g.charged k = false then g.outcome k [u1 2]
  else if g.mayMow = false then g.outcome k [u1 3]
  else
    match g.zoneChoice k with
    | (false, _) => g.outcome k [u1 4]
    | (true, g) => g.outcome k (u1 5 :: (g.lane k).elim [] Lane.ends)

/-- MOWER_DISPATCH (R72). -/
def execMowerDispatch (body : Body Nat) (s : State) : Host.Outcome State Fault Refusal :=
  .next (s.request 0x2C r1 .runOnly body (fun q g => g.bound q g.dispatchMower))

/-! ### The heartbeat and the FLEET restart (R62, R75) -/

/-- A supervised mower's deadline reached: LOST (R62). -/
def Garden.loseMower (g : Garden) (k : Slot) : Garden :=
  ((g.leaveIfWorking k).editMower k (fun x => { x with outstanding := none, deadline := none })).enter k .lost

/-- The deadline that a heartbeat expiry is about: that of a supervised mower (R61). -/
def MowerCtx.watched (x : MowerCtx) : Option Nat := if x.state.supervised then x.deadline else none

/-- HEARTBEAT_EXPIRY (R62): a deadline that a delivery has moved on, or one that is not supervised, is not reached. -/
def execHeartbeatExpiry (slot : Slot) (s : State) : Host.Outcome State Fault Refusal :=
  .next (s.eventAt (s.mower slot).watched (·.loseMower slot))

/-- The context of a bound slot after a FLEET restart (R75). -/
def MowerCtx.restarted (x : MowerCtx) : MowerCtx :=
  { MowerCtx.start with
    nextOrder := x.nextOrder, outstanding := x.outstanding, faultCode := x.faultCode }

/-- One bound slot restarted: leaving effects, STOP, RETURN, the context, ABSENT reported (R75). -/
def Garden.restartSlot (g : Garden) (k : Slot) : Garden :=
  if (g.slot k).cfg.source.isNone then g
  else
    let g := ((g.leave k).postOrder k .stop).postOrder k .returnHome
    let g := (g.editMower k MowerCtx.restarted).on (·.reportMower k)
    (g.reformEscort k).on (·.tendCharger k)

/-- UNIT_RESTART of the unit FLEET (R75). -/
def execUnitRestartFleet (body : Body UnitRef) (s : State) : Host.Outcome State Fault Refusal :=
  .next (s.unitRestart 2 body (fun g => allSlots.foldl Garden.restartSlot g))

end Sys2Proof.Machine
end

