-- ==== Sys2Proof/Machine/HostCommands.lean ====
section
/-! DEFINITION. The Host Link's own commands: power-on and restart, the receiver and the reply, the modes,
the settings store, the garden clock, the reports and STATUS_GET (R182–R194). -/

namespace Sys2Proof.Machine

/-! ### Power-on and RESTART (R189, R193) -/

/-- POWER_ON (R189); NRST gives the same start. -/
def execPowerOn (level : Nat) (s : State) : Host.Outcome State Fault Refusal :=
  .next (s.boot (readPin 1500 level))

/-- RESTART (R193): the ACCEPTED reply goes out whole, the waiting requests are discarded, and the part
starts. The reply stands in the fresh link, with no request in service. -/
def State.restart (s : State) (body : Body Unit) (level : Nat) : State :=
  s.requestFull 0x13 rNone .both body (fun _ s => (s.boot level, .accepted []))

/-- RESTART (R193). -/
def execRestart (body : Body Unit) (level : Nat) (s : State) : Host.Outcome State Fault Refusal :=
  .next (s.restart body (readPin 1500 level))

/-! ### The receiver and the reply (R183, R184) -/

/-- HOST_BYTE_RECEIVED (R183). -/
def execHostByteReceived (byte : Byte) (stopError : Bool) (s : State) : Host.Outcome State Fault Refusal :=
  .next { s with link := s.link.takeByte byte stopError }

/-- HOST_FRAME_END (R183, R184): the last CRC byte arrives. -/
def execHostFrameEnd (byte : Byte) (stopError : Bool) (s : State) : Host.Outcome State Fault Refusal :=
  .next { s with link := s.link.takeByte byte stopError }

/-- HOST_BAD_LENGTH (R183): a LEN byte above 200 arrives. -/
def execHostBadLength (byte : Byte) (stopError : Bool) (s : State) : Host.Outcome State Fault Refusal :=
  .next { s with link := s.link.takeByte byte stopError }

/-- HOST_FRAME_TIMEOUT (R183). -/
def execHostFrameTimeout (s : State) : Host.Outcome State Fault Refusal :=
  .next { s with link := s.link.silence }

/-- REPLY_SENT (R184). -/
def execReplySent (s : State) : Host.Outcome State Fault Refusal :=
  .next { s with link := s.link.replySent }

/-- Whether a KIND code names a request kind (R185). -/
def knownKind (kind : Nat) : Bool := decide (0x10 ≤ kind ∧ kind ≤ 0x49)

/-- REQUEST_UNKNOWN_KIND (R185). A code that names a request kind is not this command's, and changes
nothing. -/
def execRequestUnknownKind (kind : Nat) (s : State) : Host.Outcome State Fault Refusal :=
  .next (if knownKind kind then s else s.serve kind (fun _ => true) (fun s => (s, .refused .unknownKind [])))

/-! ### The settings store (R188) -/

/-- The copy that a write goes to (R188). -/
def Store.target (s : Store) : CopyId :=
  match s.newest with
  | some (.one, _) => .two
  | some (.two, _) => .one
  | none => .one

/-- A settings write begins: the copy it goes to is not valid while it runs (R188). -/
def Store.begin (s : Store) (snapshot : Settings) (now : Nat) : Store :=
  { s.put s.target none with writing := some ⟨nextGeneration s.generation, s.target, snapshot, now⟩ }

/-- SETTINGS_STORE (R188). -/
def execSettingsStore (body : Body Unit) (s : State) : Host.Outcome State Fault Refusal :=
  .next (s.requestFull 0x10 rNone .config body (fun _ s =>
    ({ s with store := s.store.begin s.snapshot s.now },
      .accepted [u4 (nextGeneration s.store.generation)])))

/-- The running time in ms at which a write ends: 2 s after it began (R188). -/
def StoreWrite.ends (w : StoreWrite) : Nat := w.began + 2000

/-- The read-back at a write's end (R188). -/
def State.endWrite (s : State) (w : StoreWrite) (readBackMatches : Bool) : State :=
  if readBackMatches then
    { s with
      store := { s.store.put w.target (some ⟨w.generation, w.snapshot⟩) with writing := none },
      toGarden := s.toGarden.on (·.post (.settingsStored w.generation)) }
  else
    { s with
      store := { s.store.put w.target none with writing := none },
      toGarden := s.toGarden.on (·.post (.settingsStoreFailed w.generation)) }

/-- A write under way ends once the running time reaches its end, which it then moves up to within the present second
(R188; assumption log 1). Without a write, or before its end, nothing happens. -/
def State.writeEnds (s : State) (readBackMatches : Bool) : State :=
  match s.store.writing with
  | some w => if s.reached w.ends then (s.event (·.on (·.reach w.ends))).endWrite w readBackMatches else s
  | none => s

/-- STORE_WRITE_END (R188). -/
def execStoreWriteEnd (readBackMatches : Bool) (s : State) : Host.Outcome State Fault Refusal :=
  .next (s.writeEnds readBackMatches)

/-! ### The modes (R186, R187) -/

/-- SETUP entered from RUN (R186). -/
def Garden.enterSetup (g : Garden) : Garden := ({ g with mode := .setup }.recallAll .setup).on Bench.resetShow

/-- MODE_SETUP (R186). -/
def execModeSetup (body : Body Unit) (s : State) : Host.Outcome State Fault Refusal :=
  .next (s.request 0x11 rNone .both body (fun _ g =>
    (if g.mode = .run then g.enterSetup else g).tell [u1 Mode.setup.code]))

/-- RUN entered from SETUP (R187). -/
def Garden.enterRun (g : Garden) : Garden :=
  let g := { g with mode := .run }
  if g.clock.isSome then g.buildQueue.dispatchPass else g

/-- MODE_RUN's checks and effect (R187). -/
def State.modeRun (s : State) : Decision :=
  if s.mode = .run then (s, .accepted [u1 Mode.run.code])
  else if s.store.writing.isSome then (s, .refused .busy [])
  else if s.position.capture.isSome then (s, .refused .busy [])
  else
    match s.runItem with
    | some item => (s, .refused .inconsistent item.fields)
    | none => ({ s with toGarden := s.toGarden.enterRun }, .accepted [u1 Mode.run.code])

/-- MODE_RUN (R187). -/
def execModeRun (body : Body Unit) (s : State) : Host.Outcome State Fault Refusal :=
  .next (s.requestFull 0x12 rNone .both body (fun _ s => s.modeRun))

/-! ### The garden clock (R190) -/

/-- The garden clock a second on (R190). -/
def GardenClock.next (c : GardenClock) : GardenClock :=
  if c.second < 86399 then { c with second := c.second + 1 } else ⟨(c.day + 1) % 65536, 0⟩

/-- A day change: the cap period ends and MP makes a dispatch pass (R190). -/
def Garden.changeDay (g : Garden) : Garden := (g.on (·.endCapPeriod)).settle.dispatchPass

/-- Every round-start that lies after a day becomes that day (R78). -/
def MapUnit.pullRounds (m : MapUnit) (day : Nat) : MapUnit :=
  m.mapZones (fun z => { z with
    roundStart := z.roundStart.map (fun r => if 0 < dayDistance r day then day else r) })

/-- A TIME_SET on a set clock gives an earlier day: round-starts pulled back, and the queue built in RUN (R78). -/
def Garden.stepBack (g : Garden) (day : Nat) : Garden :=
  let g := g.onMap (·.pullRounds day)
  if g.mode = .run then g.buildQueue else g

/-- The clock's values written. -/
def Garden.putClock (g : Garden) (c : GardenClock) : Garden := g.on (fun b => { b with clock := some c })

/-- What a TIME_SET starts at MP and WU, by the clock before it (R78, R190). -/
def Garden.takeTime (g : Garden) (before : Option GardenClock) (day : Nat) : Garden :=
  match before with
  | none => if g.mode = .run then g.buildQueue.dispatchPass else g
  | some c =>
    if day = c.day then g
    else (if dayDistance day c.day < 0 then g.stepBack day else g).changeDay

/-- TIME_SET's effect (R190). -/
def Garden.timeSet (q : TimeSet) (g : Garden) : Garden × Answer :=
  let c : GardenClock := ⟨q.day, min 86399 q.second⟩
  let g := ((g.putClock c).takeTime g.clock c.day).judgeQuiet
  ((g.on Bench.formSchedules).settle).tell [u2 c.day, u3 c.second]

/-- TIME_SET (R190). -/
def execTimeSet (body : Body TimeSet) (s : State) : Host.Outcome State Fault Refusal :=
  .next (s.request 0x15 rTimeSet .both body Garden.timeSet)

/-- A second of running time: the running count, and a second in OPEN on the cap count (R10, R105). A second only
partly spent in OPEN counts where the valve is OPEN at its end (DESIGN CHOICE, assumption log 54). -/
def Bench.passSecond (b : Bench) : Bench :=
  let b := { b with time := ⟨b.time.secs + 1, 0⟩ }
  if b.water.topup = .opened then b.setWater { b.water with capCount := b.water.capCount + 1 } else b

/-- LU forms SCHEDULE afresh where the clock has entered or left the late window (R153). -/
def Garden.judgeLate (g : Garden) (before : Bool) : Garden :=
  if g.inLate = before then g else (g.on Bench.formSchedules).settle

/-- A set clock counts a second (R190). -/
def Garden.countClock (g : Garden) (c : GardenClock) : Garden :=
  let late := g.inLate
  let g := g.putClock c.next
  let g := if c.next.day = c.day then g else g.changeDay
  g.judgeQuiet.judgeLate late

/-- CLOCK_SECOND (R190). -/
def Garden.clockSecond (g : Garden) : Garden :=
  let g := g.on Bench.passSecond
  match g.clock with
  | some c => g.countClock c
  | none => g

/-- CLOCK_SECOND (R190). -/
def execClockSecond (s : State) : Host.Outcome State Fault Refusal := .next (s.event Garden.clockSecond)

/-! ### Reports and STATUS_GET (R192, R194) -/

/-- The reports after a fetch (R192). -/
def Reports.fetched (q : Reports) : Reports := { q with queue := q.queue.drop 8, lost := 0 }

/-- What a fetch tells (R192, R195). -/
def Reports.fields (q : Reports) : List Field :=
  [u1 (q.queue.take 8).length, u1 q.lost] ++ (q.queue.take 8).map Report.field

/-- REPORTS_FETCH (R192). -/
def execReportsFetch (body : Body Unit) (s : State) : Host.Outcome State Fault Refusal :=
  .next (s.request 0x17 rNone .both body (fun _ g =>
    (g.on (fun b => { b with reports := b.reports.fetched })).tell g.reports.fields))

/-- The mask taken: bits of codes that name no report kind are 0 (R192). -/
def takenMask (m : Word32) : Word32 := m &&& allReports

/-- REPORT_MASK_SET (R192). -/
def execReportMaskSet (body : Body Word32) (s : State) : Host.Outcome State Fault Refusal :=
  .next (s.request 0x18 rMask .both body (fun m g =>
    (g.on (fun b => { b with reports := { b.reports with mask := takenMask m } })).tell
      [unsignedField 4 (takenMask m).toNat]))

/-- STATUS_GET's items of the part and the clock (R194); the clock's day and second take one presence byte (DESIGN
CHOICE, assumption log 59), and the seconds since the write began are the elapsed milliseconds truncated (DESIGN CHOICE,
assumption log 87). -/
def State.partFields (s : State) : List Field :=
  [u1 s.mode.code, u1 (if s.store.writing.isSome then 2 else 1), u4 s.store.generation,
    optField u1 (s.store.writing.map (fun w => s.secsSince w.began))] ++
    optFields (fun c : GardenClock => [u2 c.day, u3 c.second]) s.clock ++ [u4 s.time.secs]

/-- STATUS_GET's items of the link and the reports (R194). -/
def State.linkFields (s : State) : List Field :=
  let c := s.link.counters
  [u2 c.good, u2 c.badLength, u2 c.badCrc, u2 c.truncated, u2 c.queueFull, u1 s.link.queue.length,
    u1 s.reports.queue.length, u1 s.reports.lost, unsignedField 4 s.reports.mask.toNat]

/-- STATUS_GET's items of the planner (R98, R194). -/
def Garden.plannerFields (g : Garden) : List Field :=
  let p := g.planner
  [flag p.cfg.enabled, u1 p.rain.code, optField u2 (p.dryWaitExpiry.map g.secsLeft), flag p.rainSilent,
    flag g.inQuiet] ++ groupFields p.due (fun e => [u1 (e.zone.val + 1), u2 e.due])

/-- What STATUS_GET tells (R194). -/
def State.statusFields (s : State) : List Field := s.partFields ++ s.linkFields ++ s.plannerFields

/-- STATUS_GET (R194). -/
def execStatusGet (body : Body Nat) (s : State) : Host.Outcome State Fault Refusal :=
  .next (s.requestFull 0x16 r1 .both body (fun p s => (s, (s.tellPage s.statusFields p).2)))

end Sys2Proof.Machine
end

