-- ==== Sys2Proof/Machine/LightCommands.lean ====
section
/-! DEFINITION. The Light Unit's commands: its settings, LIGHT_MANUAL, LIGHT_CLEAR_FAULT, LIGHT_GET, its
expiries, dusk silence, the open-lamp fault and the LIGHTS restart (R150–R165). -/

namespace Sys2Proof.Machine

/-! ### LIGHT_SET (R152) -/

/-- The frequency that the channel's 10 µs units allow (R152). -/
def channelFrequency (f : Nat) : Nat := 100000 / (100000 / f)

/-- The circuit fields that a LIGHT_SET gives after clamping and adjusting (R152). -/
def circuitCfgOf (q : LightSet) : CircuitCfg :=
  ⟨q.inUse, clamp 1 300 q.ratedWatts, channelFrequency (clamp 100 2000 q.frequency),
    clamp 10 1000 q.fadeRate / 10 * 10, clamp 0 1000 q.duskLevel, clamp 0 1000 q.nightLevel,
    clamp 0 1000 q.lateLevel, clamp 0 1000 q.motionLevel, clamp 1 5000 q.openThreshold,
    clamp 100 20000 q.shortLimit⟩

/-- The configured fields of a circuit (R152). -/
def CircuitCfg.fields (c : CircuitCfg) : List Field :=
  [flag c.inUse, u2 c.ratedWatts, u2 c.frequency, u2 c.fadeRate, u2 c.duskLevel, u2 c.nightLevel, u2 c.lateLevel,
    u2 c.motionLevel, u2 c.openThreshold, u2 c.shortLimit]

/-- A circuit that is no longer in use: output and asks 0, OFF, fault and open count cleared (R152). Its requests
stand, a MOTION hold included (DESIGN CHOICE, assumption log 61). A LIGHT_SET that leaves a circuit out of use clears
a fault that a trip or a short has set since (DESIGN CHOICE, assumption log 70). -/
def LampCircuit.retire (x : LampCircuit) : LampCircuit :=
  if x.cfg.inUse then x else { x with output := 0, state := .off, openCount := 0 }

/-- A taken LIGHT_SET acts at once (R152, R153, R158, R159). A circuit in use hands its frequency to the
channel with its next level; one no longer in use hands over level 0. R152 names no LIGHT_FAULT for a fault that
ends because the circuit is not in use any more, and the model posts none (DESIGN CHOICE, assumption log 52). A MOTION
request whose hold runs keeps the motion level of its trip (DESIGN CHOICE, assumption log 75). -/
def Bench.applyLight (b : Bench) (c : Circuit) (cfg : CircuitCfg) : Bench :=
  let b := b.setLamp c { b.lamp c with cfg := cfg }.retire
  let b := (b.formSchedule c).settle
  if cfg.inUse then b.lampGrant c else b.carry (.light c)

/-- LIGHT_SET's checks and effect (R152); a circuit out of range is refused first (DESIGN CHOICE, assumption log 88). -/
def Garden.lightSet (q : LightSet) (g : Garden) : Garden × Answer :=
  g.named (index? 12 q.circuit) (fun c =>
    if (circuitCfgOf q).shortLimit ≤ (circuitCfgOf q).openThreshold then g.refuse .inconsistent
    else (g.on (·.applyLight c (circuitCfgOf q))).tell (circuitCfgOf q).fields)

/-- LIGHT_SET (R152). -/
def execLightSet (body : Body LightSet) (s : State) : Host.Outcome State Fault Refusal :=
  .next (s.request 0x3F rLightSet .config body Garden.lightSet)

/-! ### Schedule, motion map, manual (R153, R154, R157) -/

/-- LIGHT_SCHEDULE_SET (R153). -/
def execLightScheduleSet (body : Body LightScheduleSet) (s : State) : Host.Outcome State Fault Refusal :=
  .next (s.request 0x40 rLightSchedule .config body (fun q g =>
    let late := clamp 0 1439 q.lateTime
    let hold := clamp 5 600 q.motionHold
    ((g.on (fun b =>
      { b with lights := { b.lights with lateTime := late, motionHold := hold } }.formSchedules)).settle).tell
      [u2 late, u2 hold]))

/-- A source that another entry of the motion map names (R154). -/
def LightUnit.mappedElsewhere (u : LightUnit) (i : Fin 8) (src : SourceId) : Bool :=
  (List.finRange 8).any (fun j => decide (j ≠ i ∧ (tget u.motionMap j).source = some src))

/-- Replace an entry of the motion map (R154). -/
def Garden.setMap (g : Garden) (i : Fin 8) (src : Option SourceId) (l : List Circuit) : Garden × Answer :=
  (g.on (fun b => { b with lights :=
    { b.lights with motionMap := tset b.lights.motionMap i ⟨src, l⟩ } })).tell []

/-- MOTION_MAP_SET's checks and effect (R154). A source of 0 is out of range like one above 40 (R185).
Numbers out of range are refused first (DESIGN CHOICE, assumption log 88). -/
def Garden.motionMapSet (q : MotionMapSet) (g : Garden) : Garden × Answer :=
  g.named (index? 8 q.entry) (fun i =>
    match q.source with
    | none => g.setMap i none q.circuits
    | some n =>
      g.named (index? 40 n) (fun src =>
        if g.lights.mappedElsewhere i src then g.refuse .inconsistent else g.setMap i (some src) q.circuits))

/-- MOTION_MAP_SET (R154). -/
def execMotionMapSet (body : Body MotionMapSet) (s : State) : Host.Outcome State Fault Refusal :=
  .next (s.request 0x41 rMotionMap .config body Garden.motionMapSet)

/-- LIGHT_MANUAL (R157). -/
def execLightManual (body : Body LightManual) (s : State) : Host.Outcome State Fault Refusal :=
  .next (s.request 0x42 rLightManual .both body (fun q g =>
    g.named (index? 12 q.circuit) (fun c =>
      let level := q.level.map (clamp 0 1000)
      ((g.on (fun b => (b.setLamp c { b.lamp c with manual := level }).postLamp c)).settle).tell
        [optField u2 level])))

/-! ### Faults (R160, R162) -/

/-- A circuit's fault cleared to a state, with its report (R162). -/
def Bench.clearLamp (b : Bench) (c : Circuit) (s : LampState) : Bench :=
  ((b.setLamp c { b.lamp c with state := s, openCount := 0 }).postLamp c).postLightFault c |>.settle

/-- LIGHT_CLEAR_FAULT by state (R162). -/
def Garden.lightClear (g : Garden) (c : Circuit) : Garden × Answer :=
  match (g.lamp c).state with
  | .faultShort _ =>
    if g.power.fnTripped (.light c) then g.refuse .inconsistent else (g.on (·.clearLamp c .off)).tell []
  | .faultOpen => (g.on (·.clearLamp c (if (g.lamp c).output = 0 then .off else .lit))).tell []
  | .off => g.refuse .inconsistent
  | .lit => g.refuse .inconsistent

/-- LIGHT_CLEAR_FAULT (R162). -/
def execLightClearFault (body : Body Nat) (s : State) : Host.Outcome State Fault Refusal :=
  .next (s.request 0x43 r1 .both body (fun q g => g.named (index? 12 q) g.lightClear))

/-- The open count of a circuit in OFF or LIT reaches 20: FAULT_OPEN (R160). -/
def Bench.openLamp (b : Bench) (c : Circuit) : Bench :=
  let x := b.lamp c
  if (x.state = .off ∨ x.state = .lit) ∧ 20 ≤ x.openCount then
    (b.setLamp c { x with state := .faultOpen, openCount := 0 }).postLightFault c
  else b

/-- LAMP_OPEN_FAULT (R160). -/
def execLampOpenFault (circuit : Circuit) (s : State) : Host.Outcome State Fault Refusal :=
  .next (s.event (·.on (·.openLamp circuit)))

/-! ### LIGHT_GET (R163) -/

/-- The part's items (R163); the pending state and its seconds take one presence byte (DESIGN CHOICE, assumption
log 59). -/
def Bench.duskFields (b : Bench) : List Field :=
  let u := b.lights
  [u1 u.dusk.code] ++
    optFields (fun p : PendingDusk => [u1 p.state.code, u1 (b.secsLeft p.expiry)]) u.pendingDusk ++
    [optField u2 u.lux, flag u.silent, u2 u.lateTime, flag b.inLate, u2 u.motionHold]

/-- A slot's contribution (R155, R163); the held level and its seconds take one presence byte (DESIGN CHOICE,
assumption log 59). -/
def Bench.escortFields (b : Bench) (x : Contribution) : List Field :=
  [optField u2 x.present] ++ optFields (fun h : HeldEscort => [u2 h.level, u1 (b.secsLeft h.expiry)]) x.held

/-- The requests of a circuit (R163). -/
def Bench.requestFields (b : Bench) (x : LampCircuit) : List Field :=
  [u2 x.schedule, u2 x.motion, optField u2 (x.motionExpiry.map b.secsLeft), u2 (x.escort b.lights.dusk)] ++
    groupFields allSlots (fun k => b.escortFields (x.escorts.get k)) ++ [optField u2 x.manual, optField u2 x.shows]

/-- The output items of a circuit (R163). -/
def Bench.outputFields (b : Bench) (c : Circuit) : List Field :=
  let x := b.lamp c
  let l := b.load (lightLoad c)
  [u2 (x.target b.lights.dusk), u2 l.askA, u2 l.askB, u2 l.grantA, u2 l.grantB, u2 (b.lampCap c), u2 x.output,
    u1 x.state.code, optField u1 x.state.cause?, u1 x.openCount]

/-- What LIGHT_GET tells (R163). -/
def Bench.lightFields (b : Bench) (c : Circuit) : List Field :=
  b.duskFields ++ (b.lamp c).cfg.fields ++ b.requestFields (b.lamp c) ++ b.outputFields c

/-- LIGHT_GET (R163). -/
def execLightGet (body : Body PagedGet) (s : State) : Host.Outcome State Fault Refusal :=
  .next (s.request 0x44 rPaged .both body (fun q g =>
    g.named (index? 12 q.number) (fun c => g.tellPage (g.lightFields c) q.page)))

/-! ### Expiries and silence (R151, R154, R156) -/

/-- DUSK_DWELL_EXPIRY (R151). A pending state whose last DUSK source has been removed is still taken (DESIGN CHOICE,
assumption log 69). -/
def execDuskDwellExpiry (s : State) : Host.Outcome State Fault Refusal :=
  .next (s.eventAt (s.lights.pendingDusk.map PendingDusk.expiry) (fun g =>
    match g.lights.pendingDusk with
    | some p => g.changeDusk p.state
    | none => g))

/-- DUSK_SILENT (R151), the onset of the dusk sensor's silence: it acts once in each silence. -/
def execDuskSilent (s : State) : Host.Outcome State Fault Refusal :=
  .next (s.event (fun g =>
    if g.silentFor .dusk duskLimit = true ∧ g.lights.onset = false then g.on Bench.silenceDusk else g))

/-- MOTION_HOLD_EXPIRY (R154). -/
def execMotionHoldExpiry (circuit : Circuit) (s : State) : Host.Outcome State Fault Refusal :=
  .next (s.eventAt (s.lamp circuit).motionExpiry (fun g => (g.on (·.setMotion circuit 0 none)).settle))

/-- The expiry of a held contribution (R156). -/
def Bench.heldExpiry (b : Bench) (k : Slot) (c : Circuit) : Option Nat :=
  ((b.lamp c).escorts.get k).held.map HeldEscort.expiry

/-- ESCORT_HOLD_EXPIRY (R156). -/
def execEscortHoldExpiry (slot : Slot) (circuit : Circuit) (s : State) : Host.Outcome State Fault Refusal :=
  .next (s.eventAt (s.heldExpiry slot circuit) (fun g =>
    (g.on (fun b => b.setEscort slot circuit
      { (b.lamp circuit).escorts.get slot with held := none })).settle))

/-! ### The LIGHTS restart (R165) -/

/-- One circuit restarted: runtime state as after power-on, output and asks 0, and FAULT_SHORT (TRIP) again
where its channel is still tripped (R164, R165). -/
def Bench.restartLamp (b : Bench) (c : Circuit) : Bench :=
  let b := ((b.setLamp c (LampCircuit.start (b.lamp c).cfg)).carry (.light c)).postLamp c
  if b.power.fnTripped (.light c) then b.shortLamp c .trip else b

/-- The LIGHTS restart (R165). R165 names no DUSK_STATE for a fall to DAY and no LIGHT_FAULT for a circuit that it
takes out of a fault, and the model posts neither (DESIGN CHOICE, assumption log 53). The reports of circuits that
are FAULT_SHORT again come before DUSK_SILENT (DESIGN CHOICE, assumption log 60). All circuits' asks are posted before
the one allocation they call for (DESIGN CHOICE, assumption log 71). -/
def Garden.restartLights (g : Garden) : Garden :=
  let g := g.on (fun b => { b with lights :=
    { b.lights with dusk := .day, pendingDusk := none, lux := none, silent := false, onset := false } })
  let g := (g.on (fun b => allCircuits.foldl Bench.restartLamp b)).settle
  if g.silentFor .dusk duskLimit then g.on Bench.silenceDusk else g

/-- UNIT_RESTART of the unit LIGHTS (R165). -/
def execUnitRestartLights (body : Body UnitRef) (s : State) : Host.Outcome State Fault Refusal :=
  .next (s.unitRestart 6 body Garden.restartLights)

end Sys2Proof.Machine
end

