-- ==== Sys2Proof/Machine/MapCommands.lean ====
section
/-! DEFINITION. The Garden Map's commands: MAP_FILL, ZONE_SET, ZONE_GET, CELLS_GET, ZONE_WITHDRAW,
ZONE_RESTORE, and the expiries of block-list entries and wet marks. -/

namespace Sys2Proof.Machine

/-! ### MAP_FILL (R15) -/

/-- The cells of a rectangle, row by row. -/
def rectangle (q : MapFill) : List CellAddr :=
  ((List.finRange 64).filter (fun r => decide (q.firstRow ≤ r.val ∧ r.val ≤ q.lastRow))).flatMap (fun r =>
    ((List.finRange 96).filter (fun c => decide (q.firstCol ≤ c.val ∧ c.val ≤ q.lastCol))).map (fun c => ⟨c, r⟩))

/-- The cells of a list whose zone differs from the named zone (R15). -/
def MapUnit.toFill (m : MapUnit) (z : Option ZoneId) (l : List CellAddr) : List CellAddr :=
  l.filter (fun a => (m.cell a).zone ≠ z)

/-- One cell given to a zone: stamp, claim, block-list entry and blocked flag go (R15). -/
def MapUnit.fillCell (z : Option ZoneId) (m : MapUnit) (a : CellAddr) : MapUnit :=
  { m with blockList := m.blockList.filter (fun e => e.cell ≠ a) }.setCell a ⟨z, none, false, none⟩

/-- A fill: the cells changed as one step, emptied zones leave the due queue, revocation notices go out,
and the answer counts the changed cells (R15). -/
def Garden.fill (g : Garden) (q : MapFill) (z : Option ZoneId) : Garden × Answer :=
  let cells := g.ground.toFill z (rectangle q)
  let lost := fun k => cells.filter (fun a => (g.ground.cell a).claim = some k)
  let g := g.onMap (fun m => cells.foldl (MapUnit.fillCell z) m)
  let g := g.setDue (g.planner.due.filter (fun e => g.ground.inUse e.zone))
  (g.revokeNotices lost, .accepted [u2 cells.length])

/-- MAP_FILL's checks and effect (R15). A body both out of order and out of range is refused BAD_BODY (DESIGN
CHOICE, assumption log 64). -/
def Garden.mapFill (q : MapFill) (g : Garden) : Garden × Answer :=
  if q.lastCol < q.firstCol ∨ q.lastRow < q.firstRow then g.refuse .badBody
  else if 95 < q.lastCol ∨ 63 < q.lastRow ∨ 48 < q.zone then g.refuse .noSuch
  else g.fill q (index? 48 q.zone)

/-- MAP_FILL (R15). -/
def execMapFill (body : Body MapFill) (s : State) : Host.Outcome State Fault Refusal :=
  .next (s.request 0x19 rMapFill .config body Garden.mapFill)

/-! ### ZONE_SET and ZONE_GET (R2, R3, R16) -/

/-- The code of a wet mark in its set (R3). -/
def markCode : Mark → Nat
  | .nozzle n => nozzleNo n
  | .discharge => 5

/-- The remaining dry-off of a drying mark. -/
def Bench.dryingLeft (b : Bench) (z : Zone) (m : Mark) : Option (Mark × Nat) :=
  match z.mark m with
  | .drying t => some (m, b.secsLeft t)
  | .held => none
  | .absent => none

/-- The configured fields of a zone (R2). -/
def ZoneCfg.fields (c : ZoneCfg) : List Field :=
  [u1 (zoneKindCode c.kind), u1 c.interval, u1 c.cutHeight, optField (fun i : Circuit => u1 (i.val + 1)) c.circuit,
    optField (fun n => u1 (nozzleNo n)) c.splash, flag c.discharge, u2 c.escort, flag c.withdrawn]

/-- A zone record (R2, R3). -/
def Bench.zoneRecord (b : Bench) (z : ZoneId) : List Field :=
  let r := b.ground.zone z
  let wet := (allMarks.filter (fun m => r.mark m ≠ .absent)).map (fun m => 2 ^ (markCode m - 1))
  r.cfg.fields ++ [u1 wet.sum] ++
    groupFields (allMarks.filterMap (b.dryingLeft r)) (fun p => [u1 (markCode p.1), u2 p.2]) ++
    [optField u2 r.roundStart, optField (fun k => u1 (slotNo k)) r.assigned]

/-- What ZONE_GET tells (R3). -/
def Bench.zoneFields (b : Bench) (z : ZoneId) : List Field :=
  let cells := b.ground.cellsOf z
  b.zoneRecord z ++ [flag (b.ground.inUse z), u2 cells.length, u2 (cells.filter (fun p => p.2.claim.isSome)).length,
    u2 (cells.filter (fun p => p.2.blocked)).length]

/-- An optional number that must name a record: absent, the record, or out of range. -/
def optIndex (n : Nat) (k : Option Nat) : Option (Option (Fin n)) :=
  match k with
  | none => some none
  | some k => (index? n k).map some

/-- An optional nozzle number. -/
def optNozzle (k : Option Nat) : Option (Option Nozzle) :=
  match k with
  | none => some none
  | some k => (nozzleOf? k).map some

/-- A zone's configured fields written, with the effects of a change of kind (R16, R77) and of the escort
fields (R156): the slots' escorts are re-formed in slot order, each with an allocation of its own (DESIGN CHOICE,
assumption log 76). -/
def Garden.writeZone (g : Garden) (z : ZoneId) (c : ZoneCfg) : Garden :=
  let old := g.ground.zone z
  let g := g.onMap (·.setZone z { old with cfg := c })
  let g :=
    if c.kind = old.cfg.kind then g
    else
      let g := g.onMap (fun m => m.setZone z { m.zone z with roundStart := none, assigned := none })
      let g := g.onMap (fun m => { m with
        grid := m.grid.remap (fun x => if x.zone = some z then { x with lastMown := none } else x) })
      (g.setPlanner { g.planner with lastRound := tset g.planner.lastRound z none }).removeDue z
  if c.circuit = old.cfg.circuit ∧ c.escort = old.cfg.escort then g else allSlots.foldl Garden.reformEscort g

/-- Whether a zone other than `z` is marked discharge (R16). -/
def MapUnit.otherDischarge (m : MapUnit) (z : ZoneId) : Bool :=
  (List.finRange 48).any (fun y => decide (y ≠ z) && (m.zone y).cfg.discharge)

/-- ZONE_SET's checks and effect (R16). -/
def Garden.zoneSet (q : ZoneSet) (g : Garden) : Garden × Answer :=
  g.named (index? 48 q.zone) (fun z =>
    match q.kind, optIndex 12 q.circuit, optNozzle q.splash with
    | .unknown _, _, _ => g.refuse .badBody
    | .named _, none, _ => g.refuse .noSuch
    | .named _, some _, none => g.refuse .noSuch
    | .named kind, some circuit, some splash =>
      if q.discharge = true ∧ g.ground.otherDischarge z = true then g.refuse .inconsistent
      else
        let g := g.writeZone z ⟨kind, clamp 1 14 q.interval, clamp 20 80 q.cutHeight, circuit, splash, q.discharge,
          clamp 0 1000 q.escort, (g.ground.zone z).cfg.withdrawn⟩
        g.tell (g.zoneRecord z))

/-- ZONE_SET (R16). -/
def execZoneSet (body : Body ZoneSet) (s : State) : Host.Outcome State Fault Refusal :=
  .next (s.request 0x1A rZoneSet .config body Garden.zoneSet)

/-- ZONE_GET (R3). -/
def execZoneGet (body : Body PagedGet) (s : State) : Host.Outcome State Fault Refusal :=
  .next (s.request 0x1B rPaged .both body (fun q g =>
    g.named (index? 48 q.number) (fun z => g.tellPage (g.zoneFields z) q.page)))

/-! ### CELLS_GET (R1) -/

/-- The fields of one cell (R1). -/
def Cell.fields (c : Cell) : List Field :=
  [u1 (zoneNo c.zone), optField (fun k => u1 (slotNo k)) c.claim, flag c.blocked, optField u2 c.lastMown]

/-- What CELLS_GET tells of a span (R1). -/
def MapUnit.spanFields (m : MapUnit) (q : CellsGet) : List Field :=
  groupFields (rectangle ⟨q.firstCol, q.lastCol, q.row, q.row, 0⟩) (fun a => (m.cell a).fields)

/-- CELLS_GET (R1). Its span is a first and a last column (DESIGN CHOICE, assumption log 63); a reversed one is
refused (assumption log 14). -/
def execCellsGet (body : Body CellsGet) (s : State) : Host.Outcome State Fault Refusal :=
  .next (s.request 0x1C rCellsGet .both body (fun q g =>
    if 63 < q.row ∨ 95 < q.firstCol ∨ 95 < q.lastCol then g.refuse .noSuch
    else if q.lastCol < q.firstCol then g.refuse .badBody
    else g.tellPage (g.ground.spanFields q) q.page))

/-! ### ZONE_WITHDRAW and ZONE_RESTORE (R5) -/

/-- A zone's withdrawn field. -/
def MapUnit.setWithdrawn (m : MapUnit) (z : ZoneId) (v : Bool) : MapUnit :=
  m.setZone z { m.zone z with cfg := { (m.zone z).cfg with withdrawn := v } }

/-- A zone withdrawn or restored; only a change reaches MP (R5). -/
def Garden.changeView (v : Bool) (act : Garden → ZoneId → Garden) (q : Nat) (g : Garden) : Garden × Answer :=
  g.named (index? 48 q) (fun z =>
    let was := (g.ground.zone z).cfg.withdrawn
    let g := g.onMap (·.setWithdrawn z v)
    (if was = v then g else act g z).tell [flag v])

/-- ZONE_WITHDRAW (R5, R92). -/
def execZoneWithdraw (body : Body Nat) (s : State) : Host.Outcome State Fault Refusal :=
  .next (s.request 0x1D r1 .both body (Garden.changeView true Garden.zoneWithdrawn))

/-- ZONE_RESTORE (R5, R92). -/
def execZoneRestore (body : Body Nat) (s : State) : Host.Outcome State Fault Refusal :=
  .next (s.request 0x1E r1 .both body (Garden.changeView false Garden.zoneRestored))

/-! ### Expiries (R7, R10) -/

/-- BLOCK_LIST_EXPIRY (R7): the first entry leaves the list. -/
def execBlockListExpiry (s : State) : Host.Outcome State Fault Refusal :=
  .next (s.eventAt (s.ground.blockList.head?.map BlockEntry.expiry) (fun g => g.onMap (·.dropFirstBlock)))

/-- The expiry of a drying mark. -/
def MarkState.expiry? : MarkState → Option Nat
  | .drying t => some t
  | .held => none
  | .absent => none

/-- WET_MARK_EXPIRY (R10): a DRYING mark leaves its zone's set. -/
def execWetMarkExpiry (zone : ZoneId) (mark : Mark) (s : State) : Host.Outcome State Fault Refusal :=
  .next (s.eventAt ((s.ground.zone zone).mark mark).expiry? (fun g => g.onMap (·.markExpired zone mark)))

end Sys2Proof.Machine
end

