-- ==== Sys2Proof/Machine/PlannerCommands.lean ====
section
/-! DEFINITION. The Mowing Planner's commands: PLAN_SET, MOWING_ENABLE, its expiries and timers, rain
silence and the PLANNER restart (R80, R85, R91, R96–R98, R101). -/

namespace Sys2Proof.Machine

/-- The values that a PLAN_SET gives after clamping (R98). -/
def planCfgOf (q : PlanSet) (c : PlanCfg) : PlanCfg :=
  { c with obstacleHold := clamp 10 240 q.obstacleHold, yieldTime := clamp 5 120 q.yieldTime,
           dryWait := clamp 0 600 q.dryWait, quietStart := clamp 0 1439 q.quietStart,
           quietEnd := clamp 0 1439 q.quietEnd }

/-- PLAN_SET (R97, R98). -/
def execPlanSet (body : Body PlanSet) (s : State) : Host.Outcome State Fault Refusal :=
  .next (s.request 0x2D rPlanSet .config body (fun q g =>
    let c := planCfgOf q g.planner.cfg
    (g.setPlanner { g.planner with cfg := c }).judgeQuiet.tell
      [u1 c.obstacleHold, u1 c.yieldTime, u2 c.dryWait, u2 c.quietStart, u2 c.quietEnd]))

/-- Mowing turned on or off; on runs a dispatch pass (R98). -/
def Garden.enableMowing (g : Garden) (v : Bool) : Garden :=
  let g := g.setPlanner { g.planner with cfg := { g.planner.cfg with enabled := v } }
  if v then g.dispatchPass else g

/-- MOWING_ENABLE (R98). On and off take the bytes of true and false, 1 and 0 (DESIGN CHOICE, assumption log 89). -/
def execMowingEnable (body : Body Bool) (s : State) : Host.Outcome State Fault Refusal :=
  .next (s.request 0x2E rFlag .both body (fun v g => (g.enableMowing v).tell [flag v]))

/-- The arrival expiry of a slot's lane (R85). -/
def Garden.arrivalOf (g : Garden) (k : Slot) : Option Nat := (g.lane k).bind Lane.arrival

/-- ARRIVAL_EXPIRY (R85): the lane is cancelled and the mower sent home. -/
def execArrivalExpiry (slot : Slot) (s : State) : Host.Outcome State Fault Refusal :=
  .next (s.eventAt (s.arrivalOf slot) (·.sendHome slot .laneDoneNoWork))

/-- YIELD_EXPIRY (R91). -/
def execYieldExpiry (slot : Slot) (s : State) : Host.Outcome State Fault Refusal :=
  .next (s.eventAt ((s.planner.yields.get slot).map Yield.expiry) (·.expireYield slot))

/-- PASS_TIMER (R80): the timer runs on for 60 s, and a dispatch pass is made. -/
def execPassTimer (s : State) : Host.Outcome State Fault Refusal :=
  .next (s.eventAt (some s.planner.passTimer) (fun g =>
    (g.setPlanner { g.planner with passTimer := g.planner.passTimer + 60000 }).dispatchPass))

/-- The expiry of a dry-wait that runs: the rain state is WAITING (R96). -/
def Planner.dryWaitEnds (p : Planner) : Option Nat := if p.rain = .waiting then p.dryWaitExpiry else none

/-- DRY_WAIT_EXPIRY (R96). -/
def execDryWaitExpiry (s : State) : Host.Outcome State Fault Refusal :=
  .next (s.eventAt s.planner.dryWaitEnds (fun g => (g.setRain .dry none).dispatchPass))

/-- RAIN_SILENT (R96), the onset of the rain sensor's silence: it acts once in each silence. -/
def execRainSilent (s : State) : Host.Outcome State Fault Refusal :=
  .next (s.event (fun g =>
    if g.silentFor .rain rainLimit = true ∧ g.planner.rainOnset = false then
      (g.setPlanner { g.planner with rainSilent := true, rainOnset := true }).on (·.post .rainSilent)
    else g))

/-- Every lane, yield record, set-aside list, assigned mower and claim removed (R101). -/
def Garden.clearPlans (g : Garden) : Garden :=
  let g := g.setPlanner { g.planner with
    lanes := ⟨none, none, none⟩, yields := ⟨none, none, none⟩, setAside := ⟨[], [], []⟩ }
  let g := allSlots.foldl Garden.retrack g
  let g := g.onMap (fun m => (m.mapZones (fun z => { z with assigned := none })))
  allSlots.foldl Garden.releaseAll g

/-- The PLANNER restart (R101). -/
def Garden.restartPlanner (g : Garden) : Garden := (g.sendAllHome .recall).clearPlans.buildQueue.dispatchPass

/-- UNIT_RESTART of the unit PLANNER (R101). -/
def execUnitRestartPlanner (body : Body UnitRef) (s : State) : Host.Outcome State Fault Refusal :=
  .next (s.unitRestart 3 body Garden.restartPlanner)

end Sys2Proof.Machine
end

