-- ==== Sys2Proof/Machine/PositionCommands.lean ====
section
/-! DEFINITION. The Position Unit's commands: CALIBRATE_STAKE, CALIBRATE_SOLVE, CALIBRATION_GET and the
capture deadline (R44–R50). -/

namespace Sys2Proof.Machine

/-- A capture begins (R45). -/
def Garden.beginCapture (g : Garden) (k : Stake) (slot : Slot) (x y : Nat) : Garden :=
  (g.setStake k { g.position.stakes.get k with isSet := false, gardenX := x, gardenY := y }).setCapture
    (some ⟨k, slot, 0, 0, 0, g.time.secs + 30⟩)

/-- CALIBRATE_STAKE's checks and effect (R45). -/
def Garden.calibrateStake (q : CalibrateStake) (g : Garden) : Garden × Answer :=
  g.named (stakeOf? q.stake) (fun k =>
    g.named (slotOf? q.slot) (fun slot =>
      if (g.slot slot).cfg.source.isNone then g.refuse .noSuch
      else if g.position.capture.isSome then g.refuse .busy
      else
        let x := clamp 0 4799 q.x
        let y := clamp 0 3199 q.y
        (g.beginCapture k slot x y).tell [u1 q.stake, u2 x, u2 y, u1 q.slot]))

/-- CALIBRATE_STAKE (R45). -/
def execCalibrateStake (body : Body CalibrateStake) (s : State) : Host.Outcome State Fault Refusal :=
  .next (s.request 0x23 rCalibrateStake .config body Garden.calibrateStake)

/-- The six coefficients (R44, R50). -/
def Coeffs.fields (c : Coeffs) : List Field := c.toList.map (signedField 4)

/-- CALIBRATE_SOLVE's checks and effect (R49, R50). -/
def Garden.calibrateSolve (g : Garden) : Garden × Answer :=
  let s := g.position.stakes
  if g.position.capture.isSome then g.refuse .busy
  else if s.unset ≠ [] then (g, .refused .inconsistent (groupFields s.unset (fun k => [u1 (stakeNo k)])))
  else if s.det.natAbs < 16 then (g, .refused .degenerate [signedField 1 s.det])
  else
    match s.solve.overflow with
    | some i => (g, .refused .overflow [u1 i])
    | none => (g.applySolve s.solve).tell s.solve.fields

/-- CALIBRATE_SOLVE (R49, R50). -/
def execCalibrateSolve (body : Body Unit) (s : State) : Host.Outcome State Fault Refusal :=
  .next (s.request 0x24 rNone .config body (fun _ g => g.calibrateSolve))

/-- A stake, with its positions when it is SET (R44): one presence byte for the group (DESIGN CHOICE, assumption
log 45). -/
def StakeRec.fields (r : StakeRec) : List Field :=
  u1 (if r.isSet then 2 else 1) :: optFields (fun r : StakeRec =>
    [u2 r.gardenX, u2 r.gardenY, signedField 2 r.rawX, signedField 2 r.rawY]) (if r.isSet then some r else none)

/-- What CALIBRATION_GET tells (R44); the items of a running capture take one presence byte together (DESIGN
CHOICE, assumption log 45). -/
def Garden.calibrationFields (g : Garden) : List Field :=
  let p := g.position
  p.coeffs.fields ++ groupFields allStakes (fun k => (p.stakes.get k).fields) ++
    (u1 (if p.capture.isSome then 2 else 1) :: optFields (fun c : Capture =>
      [u1 (stakeNo c.stake), u1 (slotNo c.slot), u1 c.count, u1 (c.deadline - g.time.secs)]) p.capture)

/-- CALIBRATION_GET (R44). -/
def execCalibrationGet (body : Body Unit) (s : State) : Host.Outcome State Fault Refusal :=
  .next (s.request 0x25 rNone .both body (fun _ g => g.tell g.calibrationFields))

/-- A running capture whose deadline the running second count has reached fails (R47). -/
def Garden.capExpired (g : Garden) : Garden :=
  match g.position.capture with
  | none => g
  | some c => if c.deadline ≤ g.time.secs then g.failCapture .timeout else g

/-- CAPTURE_DEADLINE (R47). -/
def execCaptureDeadline (s : State) : Host.Outcome State Fault Refusal := .next (s.event Garden.capExpired)

end Sys2Proof.Machine
end

