-- ==== Sys2Proof/Machine/PowerCommands.lean ====
section
/-! DEFINITION. The Power Unit's commands: SUPPLY_SET, CHANNEL_SET, CHANNEL_RESET, POWER_GET, CHANNEL_GET,
the current and supply samples, derating, restoring and the end of a switch hold (R166–R181). -/

namespace Sys2Proof.Machine

/-! ### SUPPLY_SET (R166) -/

/-- The supply settings after clamping (R166). -/
def supplyCfgOf (q : SupplySet) : SupplyCfg :=
  ⟨clamp 200 3000 q.capacity, clamp 0 200 q.reserve, clamp 500 10000 q.fullScale⟩

/-- A taken SUPPLY_SET: the settings, Ceff at the new C, the counts at 0, and an allocation (R166). -/
def Bench.setSupply (b : Bench) (c : SupplyCfg) : Bench :=
  ({ b with power := { b.power with cfg := c, ceff := c.capacity, overdraw := 0, restore := 0 } }.callAllocation).settle

/-- The supply settings (R166). -/
def SupplyCfg.fields (c : SupplyCfg) : List Field := [u2 c.capacity, u1 c.reserve, u2 c.fullScale]

/-- SUPPLY_SET's effect and reply (R166). -/
def Garden.supplySet (q : SupplySet) (g : Garden) : Garden × Answer :=
  let g := g.on (·.setSupply (supplyCfgOf q))
  g.tell (g.power.cfg.fields ++ [u2 g.power.ceff, u2 g.power.available])

/-- SUPPLY_SET (R166). -/
def execSupplySet (body : Body SupplySet) (s : State) : Host.Outcome State Fault Refusal :=
  .next (s.request 0x45 rSupplySet .config body Garden.supplySet)

/-! ### CHANNEL_SET (R172) -/

/-- The switch interval that DEFAULT gives a function (R172). -/
def defaultInterval : Option Fn → Nat
  | some .filterPump => 10
  | some .fountainPump => 10
  | _ => 0

/-- The function of a request, or `none` where its code names no function (R172). -/
def requestedFn (f : Option (Coded Fn)) : Option (Option Fn) :=
  match f with
  | none => some none
  | some (.named f) => some (some f)
  | some (.unknown _) => none

/-- The channel fields after clamping (R172). -/
def channelCfgOf (q : ChannelSet) (t : ChannelType) (f : Option Fn) : ChannelCfg :=
  ⟨t, f, clamp 0 60 (q.interval.getD (defaultInterval f)), clamp 100 30000 q.tripCurrent⟩

/-- The channel other than `c` that holds a function (R172). -/
def PowerUnit.otherHolder (p : PowerUnit) (c : ChannelId) (f : Option Fn) : Option ChannelId :=
  match f with
  | none => none
  | some f => (List.finRange 24).find? (fun d => decide (d ≠ c ∧ (tget p.channels d).cfg.function = some f))

/-- A channel drops its function: off at once, no hold, and a switch now if it was DRIVING (R172). -/
def Channel.dropFunction (x : Channel) (now : Nat) : Channel :=
  { x with
    requested := 0, applied := 0, holdExpiry := none, frequency := 1000,
    lastSwitch := if x.state = .driving then some now else x.lastSwitch,
    state := if x.state = .driving then .idle else x.state }

/-- A taken CHANNEL_SET acts (R172): a changed function is dropped and the new one's present level taken as
a new requested level; otherwise only the fields change, and the applied level is driven in the new way. The new level
is judged with the new interval and type (DESIGN CHOICE, assumption log 91). -/
def Bench.setChannelCfg (b : Bench) (c : ChannelId) (cfg : ChannelCfg) : Bench :=
  let x := b.channel c
  if x.cfg.function = cfg.function then b.setChannel c { x with cfg := cfg }
  else
    let b := b.setChannel c { x.dropFunction b.now with cfg := cfg }
    match cfg.function with
    | none => b
    | some f => b.carry f

/-- The configured fields of a channel (R172). -/
def ChannelCfg.fields (c : ChannelCfg) : List Field :=
  [u1 (channelTypeCode c.type), optField (fun f => u1 (fnCode f)) c.function, u1 c.interval, u2 c.tripCurrent]

/-- Whether a channel's type matches its function (R172, R173); with no function nothing is unmatched. -/
def ChannelCfg.matched (c : ChannelCfg) : Bool :=
  match c.function with
  | none => true
  | some f => typeMatches f c.type

/-- CHANNEL_SET's checks and effect (R172). The reply says whether the type matches in a last byte, 1 where it does
(DESIGN CHOICE, assumption log 86). -/
def Garden.channelSet (q : ChannelSet) (g : Garden) : Garden × Answer :=
  g.named (index? 24 q.channel) (fun c =>
    match q.type, requestedFn q.function with
    | .unknown _, _ => g.refuse .badBody
    | .named _, none => g.refuse .badBody
    | .named t, some f =>
      if (g.channel c).state = .tripped then g.refuse .inconsistent
      else
        match g.power.otherHolder c f with
        | some d => (g, .refused .inconsistent [u1 (d.val + 1)])
        | none =>
          (g.on (·.setChannelCfg c (channelCfgOf q t f))).tell
            ((channelCfgOf q t f).fields ++ [flag (channelCfgOf q t f).matched]))

/-- CHANNEL_SET (R172). -/
def execChannelSet (body : Body ChannelSet) (s : State) : Host.Outcome State Fault Refusal :=
  .next (s.request 0x46 rChannelSet .config body Garden.channelSet)

/-! ### CHANNEL_RESET (R177) -/

/-- CHANNEL_RESET's check, effect and reply (R177). -/
def Garden.channelReset (q : Nat) (g : Garden) : Garden × Answer :=
  g.named (index? 24 q) (fun c =>
    if (g.channel c).state = .tripped then
      let g := g.on (·.resetChannel c)
      g.tell [u1 (g.channel c).state.code, u2 (g.channel c).applied]
    else g.refuse .inconsistent)

/-- CHANNEL_RESET (R177). -/
def execChannelReset (body : Body Nat) (s : State) : Host.Outcome State Fault Refusal :=
  .next (s.request 0x47 r1 .both body Garden.channelReset)

/-! ### POWER_GET and CHANNEL_GET (R179) -/

/-- Whether a load has a second class (R169). -/
def hasSecondClass (i : LoadId) : Bool := decide (i.val = 0 ∨ 6 ≤ i.val)

/-- A load's posted ask, effective ask and grant in each of its classes (R169, R179). -/
def Bench.loadClasses (b : Bench) (i : LoadId) : List (Nat × Nat × Nat) :=
  let l := b.load i
  (l.askA, (b.effective i).1, l.grantA) ::
    if hasSecondClass i then [(l.askB, (b.effective i).2, l.grantB)] else []

/-- One load of POWER_GET (R179). -/
def Bench.loadFields (b : Bench) (i : LoadId) : List Field :=
  u1 i.val :: groupFields (b.loadClasses i) (fun t => [u2 t.1, u2 t.2.1, u2 t.2.2])

/-- The totals of a class (R179). -/
def ClassTotals.fields (t : ClassTotals) : List Field := [u2 t.asked, u2 t.granted, u2 t.remaining]

/-- The six classes in the order of R169. -/
def Totals.toList (t : Totals) : List ClassTotals :=
  [t.filterBase, t.safety, t.filterExtra, t.charge, t.fountain, t.ambient]

/-- What POWER_GET tells (R179). -/
def Bench.powerFields (b : Bench) : List Field :=
  let p := b.power
  p.cfg.fields ++ [u2 p.ceff, u2 p.available, u2 p.draw, u1 p.overdraw, u2 p.restore] ++
    groupFields (List.finRange 18) b.loadFields ++ groupFields p.totals.toList ClassTotals.fields

/-- POWER_GET (R179). -/
def execPowerGet (body : Body Nat) (s : State) : Host.Outcome State Fault Refusal :=
  .next (s.request 0x48 r1 .both body (fun p g => g.tellPage g.powerFields p))

/-- What CHANNEL_GET tells (R172, R179). -/
def Bench.channelFields (b : Bench) (c : ChannelId) : List Field :=
  let x := b.channel c
  x.cfg.fields ++ [u1 x.state.code, u2 x.requested, u2 x.applied, optField u4 x.lastSwitch,
    optField u1 (x.holdExpiry.map b.secsLeft), u2 x.current, flag x.cfg.matched]

/-- CHANNEL_GET (R179). -/
def execChannelGet (body : Body Nat) (s : State) : Host.Outcome State Fault Refusal :=
  .next (s.request 0x49 r1 .both body (fun q g => g.named (index? 24 q) (fun c => g.tell (g.channelFields c))))

/-! ### CURRENT_SAMPLE (R159–R161, R175) -/

/-- The samples kept in the channel records (R175). -/
def Bench.keepCurrents (b : Bench) (volts : Vector Nat 24) : Bench :=
  { b with power := { b.power with
      channels := b.power.channels.zipWith (fun x v => { x with current := readPin 30000 v }) volts } }

/-- The light tick of one circuit: the fade, then the lamp's judgement (R159–R161). -/
def Bench.tickLamp (b : Bench) (c : Circuit) : Bench := (b.fadeLamp c).judgeLamp c

/-- The samples of all channels: kept, judged channel by channel for trips, then the light tick (R175). -/
def Bench.takeCurrents (b : Bench) (volts : Vector Nat 24) : Bench :=
  let b := (List.finRange 24).foldl Bench.senseChannel (b.keepCurrents volts)
  (allCircuits.foldl Bench.tickLamp b).settle

/-- CURRENT_SAMPLE (R175). -/
def execCurrentSample (volts : Vector Nat 24) (s : State) : Host.Outcome State Fault Refusal :=
  .next (s.event (·.on (·.takeCurrents volts)))

/-! ### The supply monitor (R167, R168) -/

/-- A supply sample against A (R167, R168). -/
def PowerUnit.takeDraw (p : PowerUnit) (draw : Nat) : PowerUnit :=
  let p := { p with draw := draw }
  if p.available < draw then { p with overdraw := bump 5 p.overdraw, restore := 0 }
  else { p with overdraw := 0, restore := if p.ceff < p.cfg.capacity then bump 600 p.restore else 0 }

/-- SUPPLY_SAMPLE (R167). -/
def execSupplySample (volts : Nat) (s : State) : Host.Outcome State Fault Refusal :=
  .next (s.event (·.on (fun b => { b with power := b.power.takeDraw (readPin b.power.cfg.fullScale volts) })))

/-- Ceff one derating step lower (R167). -/
def PowerUnit.lowered (p : PowerUnit) : Nat := max (p.cfg.capacity / 2) (p.ceff - p.cfg.capacity / 10)

/-- Ceff one restoring step higher (R168). -/
def PowerUnit.raised (p : PowerUnit) : Nat := min p.cfg.capacity (p.ceff + p.cfg.capacity / 10)

/-- The supply derates (R167). -/
def Bench.derate (b : Bench) : Bench :=
  let p := b.power
  let b := { b with power := { p with overdraw := 0, ceff := p.lowered } }
  if p.lowered = p.ceff then b
  else (b.post (.powerDerated b.power.ceff b.power.available b.power.draw)).callAllocation.settle

/-- POWER_DERATED (R167): the overdraw count has reached 5. -/
def execPowerDerated (s : State) : Host.Outcome State Fault Refusal :=
  .next (s.event (fun g => if 5 ≤ g.power.overdraw then g.on Bench.derate else g))

/-- The supply restores one step (R168). -/
def Bench.restoreSupply (b : Bench) : Bench :=
  let b := { b with power := { b.power with restore := 0, ceff := b.power.raised } }
  (b.post (.powerRestored b.power.ceff b.power.available)).callAllocation.settle

/-- POWER_RESTORED (R168): the restore count has reached 600. -/
def execPowerRestored (s : State) : Host.Outcome State Fault Refusal :=
  .next (s.event (fun g =>
    if 600 ≤ g.power.restore ∧ g.power.ceff < g.power.cfg.capacity then g.on Bench.restoreSupply else g))

/-! ### SWITCH_HOLD_EXPIRY (R174) -/

/-- SWITCH_HOLD_EXPIRY (R174). -/
def execSwitchHoldExpiry (channel : ChannelId) (s : State) : Host.Outcome State Fault Refusal :=
  .next (s.eventAt (s.channel channel).holdExpiry (·.on (fun b =>
    b.setChannel channel ((b.channel channel).holdReached b.now))))

end Sys2Proof.Machine
end

