-- ==== Sys2Proof/Machine/ShowCommands.lean ====
section
/-! DEFINITION. The Show Engine's commands: SHOW_SET, SHOW_APPEND, the play requests, SHOW_GET, the show
tick, the end of a WAIT, wind silence and the SHOW restart (R128–R149). -/

namespace Sys2Proof.Machine

/-- The settings that a SHOW_SET gives after clamping (R146). -/
def showCfgOf (q : ShowSet) : ShowCfg :=
  ⟨clamp 0 599 q.calm, clamp 1 600 q.cutoff, nmap (fun n => clamp 0 1000 n.splashThreshold) q.nozzles,
    nmap (fun n => clamp 1 60 n.dryOffMinutes) q.nozzles⟩

/-- The SHOW_SET values (R146). -/
def ShowCfg.fields (c : ShowCfg) : List Field :=
  [u2 c.calm, u2 c.cutoff] ++ groupFields allNozzles (fun n => [u2 (nget c.threshold n), u1 (nget c.dryOff n)])

/-- w recomputed from the latest v, unless the wind is silent or v is absent (R146). -/
def Bench.renewWind (b : Bench) : Bench :=
  match b.shows.wind with
  | some v => if b.shows.windSilent then b else b.setWindFactor (windFactorOf b.shows.cfg v)
  | none => b

/-- SHOW_SET (R146). -/
def execShowSet (body : Body ShowSet) (s : State) : Host.Outcome State Fault Refusal :=
  .next (s.request 0x38 rShowSet .config body (fun q g =>
    if (showCfgOf q).cutoff ≤ (showCfgOf q).calm then g.refuse .inconsistent
    else
      (g.on (fun b => (b.setShows { b.shows with cfg := showCfgOf q }).renewWind.rechain)).tell (showCfgOf q).fields))

/-- A step's kind is one of the ten (R129, R130). -/
def knownStep : ShowStep → Bool
  | .unknown _ => false
  | _ => true

/-- The free slots of the ring; 0 while FAULTED (R128). -/
def ShowUnit.free (u : ShowUnit) : Nat := if u.engine = .faulted then 0 else 512 - u.steps.length

/-- SHOW_APPEND (R129, R138). The free count of the reply is taken right after the append, before the boundary test
of the same step (DESIGN CHOICE, assumption log 58). The refusals are taken in the order of R129's table (DESIGN CHOICE,
assumption log 84). -/
def Garden.appendShow (l : List ShowStep) (g : Garden) : Garden × Answer :=
  if l = [] ∨ 24 < l.length ∨ l.all knownStep = false then g.refuse .badBody
  else if g.shows.engine = .faulted then g.refuse .faulted
  else if g.shows.free < l.length then (g, .refused .full [u2 g.shows.free])
  else
    let g := g.on (fun b => b.setShows { b.shows with steps := b.shows.steps ++ l })
    (g.on Bench.testBoundary).tell [u2 g.shows.free]

/-- SHOW_APPEND (R129). -/
def execShowAppend (body : Body (List ShowStep)) (s : State) : Host.Outcome State Fault Refusal :=
  .next (s.request 0x39 rSteps .both body Garden.appendShow)

/-- Change the engine's state. -/
def Bench.setEngine (b : Bench) (e : EngineState) : Bench := b.setShows { b.shows with engine := e }

/-- SHOW_PAUSE by state (R140). -/
def Garden.pauseShow (g : Garden) : Garden × Answer :=
  match g.shows.engine with
  | .running => (g.on (·.setEngine .paused)).tell []
  | .paused => g.tell []
  | .idle => g.refuse .inconsistent
  | .faulted => g.refuse .faulted

/-- SHOW_PAUSE (R140). -/
def execShowPause (body : Body Unit) (s : State) : Host.Outcome State Fault Refusal :=
  .next (s.request 0x3A rNone .both body (fun _ g => g.pauseShow))

/-- SHOW_RESUME by state (R140). -/
def Garden.resumeShow (g : Garden) : Garden × Answer :=
  match g.shows.engine with
  | .paused => (g.on (fun b => (b.setEngine .running).testBoundary)).tell []
  | .running => g.tell []
  | .idle => g.refuse .inconsistent
  | .faulted => g.refuse .faulted

/-- SHOW_RESUME (R140). -/
def execShowResume (body : Body Unit) (s : State) : Host.Outcome State Fault Refusal :=
  .next (s.request 0x3B rNone .both body (fun _ g => g.resumeShow))

/-- SHOW_RESET (R141). -/
def execShowReset (body : Body Unit) (s : State) : Host.Outcome State Fault Refusal :=
  .next (s.request 0x3C rNone .both body (fun _ g =>
    let g := g.on Bench.resetShow
    g.tell [u1 g.shows.engine.code]))

/-- One nozzle's items (R147). -/
def Bench.nozzleFields (b : Bench) (n : Nozzle) : List Field :=
  let r := nget b.shows.ctx.nozzles n
  let h := nget b.shows.heights n
  [u2 r.value, u2 r.target, u2 h.h1, flag (nget b.shows.held n), u2 h.h2, u2 h.h3, u2 h.e,
    flag (b.power.fnTripped (.nozzle n))]

/-- The scene's items, each absent where it does not apply (R147). The stack depth is told as
the others are, in a scene and after a fault within one; in IDLE, at a boundary and after a fault at the head it is
absent, not 0 (DESIGN CHOICE, assumption log 74). -/
def ShowUnit.sceneFields (u : ShowUnit) : List Field :=
  [optField u2 (u.scene.map (fun _ => u.head)), optField u2 (u.scene.map (fun s => u.position s.next)),
    optField u2 (u.scene.bind Scene.wait), optField u2 ((u.scene.bind Scene.mark).map u.position),
    optField u1 (u.scene.bind Scene.loop), optField u1 (u.scene.map (fun _ => u.stack.length))]

/-- What SHOW_GET tells (R147). -/
def Bench.showFields (b : Bench) : List Field :=
  let u := b.shows
  [u1 u.engine.code, flag u.dry, u2 u.head, u2 u.steps.length, u2 u.free] ++ u.sceneFields ++
    groupFields u.ctx.owned (fun o => [u1 (o.circuit.val + 1), u2 o.level.value, u2 o.level.target]) ++
    [u2 u.ctx.defaultRamp, optField u2 u.wind, u2 u.windFactor, flag u.windSilent] ++
    groupFields allNozzles b.nozzleFields ++ [u2 (b.load fountainLoad).askA, u2 (b.load fountainLoad).grantA]

/-- SHOW_GET (R147). -/
def execShowGet (body : Body Nat) (s : State) : Host.Outcome State Fault Refusal :=
  .next (s.request 0x3D r1 .both body (fun p g => g.tellPage g.showFields p))

/-- SHOW_START by state (R140). -/
def Garden.startShow (g : Garden) : Garden × Answer :=
  match g.shows.engine with
  | .idle =>
    if g.shows.steps.contains .sceneEnd then
      let g := g.on (fun b => (b.setEngine .running).beginAndPlay)
      g.tell [u1 g.shows.engine.code]
    else g.refuse .inconsistent
  | .running => g.refuse .inconsistent
  | .paused => g.refuse .inconsistent
  | .faulted => g.refuse .faulted

/-- SHOW_START (R140). -/
def execShowStart (body : Body Unit) (s : State) : Host.Outcome State Fault Refusal :=
  .next (s.request 0x3E rNone .runOnly body (fun _ g => g.startShow))

/-- SHOW_TICK (R131). -/
def execShowTick (s : State) : Host.Outcome State Fault Refusal := .next (s.event (·.on Bench.showTick))

/-- WAIT_END (R131, R135). -/
def execWaitEnd (s : State) : Host.Outcome State Fault Refusal := .next (s.event (·.on Bench.endWait))

/-- WIND_SILENT (R142), the onset of the wind's silence: it acts once in each silence. -/
def execWindSilent (s : State) : Host.Outcome State Fault Refusal :=
  .next (s.event (fun g =>
    if g.silentFor .wind windLimit = true ∧ g.shows.windSilent = false then g.on Bench.silenceWind else g))

/-- UNIT_RESTART of the unit SHOW (R149). -/
def execUnitRestartShow (body : Body UnitRef) (s : State) : Host.Outcome State Fault Refusal :=
  .next (s.unitRestart 5 body (·.on Bench.resetShow))

end Sys2Proof.Machine
end

