-- ==== Sys2Proof/Machine/WaterCommands.lean ====
section
/-! DEFINITION. The Water Unit's commands: its settings, the host's filter requests, WATER_GET, the level
sample, the trial and lock gates, the backwash expiry, the cap events and the WATER restart (R102–R127). -/

namespace Sys2Proof.Machine

/-- A change of the bench with the step's allocations settled. -/
def Garden.andSettle (g : Garden) (f : Bench → Bench) : Garden := (g.on f).settle

/-! ### Settings (R103, R105, R111, R112) -/

/-- Replace WU's settings. -/
def Bench.setWaterCfg (b : Bench) (c : WaterCfg) : Bench := b.setWater { b.water with cfg := c }

/-- The thresholds after clamping (R103). -/
def levelsOf (q : WaterLevelsSet) : Levels :=
  ⟨clamp 0 1500 q.filterLow, clamp 0 1500 q.fountainLow, clamp 0 1500 q.fillOn, clamp 0 1500 q.fillOff⟩

/-- The strict order of the thresholds (R103). -/
def Levels.ordered (l : Levels) : Bool :=
  decide (l.filterLow < l.fountainLow ∧ l.fountainLow < l.fillOn ∧ l.fillOn < l.fillOff)

/-- The four thresholds (R103). -/
def Levels.fields (l : Levels) : List Field := [u2 l.filterLow, u2 l.fountainLow, u2 l.fillOn, u2 l.fillOff]

/-- WATER_LEVELS_SET (R103): the flags are evaluated at once against the latest sample. -/
def execWaterLevelsSet (body : Body WaterLevelsSet) (s : State) : Host.Outcome State Fault Refusal :=
  .next (s.request 0x2F rLevels .config body (fun q g =>
    if (levelsOf q).ordered = false then g.refuse .inconsistent
    else
      (g.andSettle (fun b => (b.setWaterCfg { b.water.cfg with levels := levelsOf q }).takeLevel b.water.level)).tell
        (levelsOf q).fields))

/-- The valve against a new cap and new watts: CAPPED, or its ask posted again (R105). -/
def Bench.reviewTopup (b : Bench) : Bench :=
  match b.water.topup with
  | .opened => if b.water.cfg.capSeconds ≤ b.water.capCount then b.capTopup else b.moveTopup .opened
  | .waitPower => if b.water.cfg.capSeconds ≤ b.water.capCount then b.capTopup else b.moveTopup .waitPower
  | .closed => b
  | .capped => b
  | .tripped => b

/-- TOPUP_SET (R105). -/
def execTopupSet (body : Body TopupSet) (s : State) : Host.Outcome State Fault Refusal :=
  .next (s.request 0x30 rTopup .config body (fun q g =>
    let cap := clamp 0 240 q.capMinutes
    let watts := clamp 1 100 q.watts
    (g.andSettle (fun b => (b.setWaterCfg { b.water.cfg with capMinutes := cap, topupWatts := watts }).reviewTopup)).tell
      [u1 cap, u1 watts]))

/-- The filter settings after clamping (R111). -/
def filterCfgOf (q : FilterSet) (m : MeritType) : FilterCfg :=
  ⟨clamp 100 50000 q.k100, clamp 10 5000 q.qMin, clamp 10 2000 q.dpMax, clamp 11 4000 q.dpClog, m,
    clamp 10 120 q.settleTime, clamp 0 7 q.lookBeyond, clamp 10 600 q.monitorInterval, clamp 1 10 q.confirmCount,
    clamp 30 600 q.backwashTime, clamp 1 48 q.backwashSpacing, clamp 5 60 q.drainTime⟩

/-- The filter settings (R111). -/
def FilterCfg.fields (c : FilterCfg) : List Field :=
  [u2 c.k100, u2 c.qMin, u2 c.dpMax, u2 c.dpClog, u1 (meritCode c.merit), u1 c.settleTime, u1 c.lookBeyond,
    u2 c.monitorInterval, u1 c.confirmCount, u2 c.backwashTime, u1 c.backwashSpacing, u1 c.drainTime]

/-- FILTER_SET's checks and effect (R111). R111 gives its two refusals no order; an unknown merit type comes first
(DESIGN CHOICE, assumption log 46). -/
def Garden.filterSet (q : FilterSet) (g : Garden) : Garden × Answer :=
  match q.merit with
  | .unknown _ => g.refuse .badBody
  | .named m =>
    let c := filterCfgOf q m
    if c.dpClog ≤ c.dpMax then g.refuse .inconsistent
    else (g.on (fun b => b.setWaterCfg { b.water.cfg with filter := c })).tell c.fields

/-- FILTER_SET (R111). -/
def execFilterSet (body : Body FilterSet) (s : State) : Host.Outcome State Fault Refusal :=
  .next (s.request 0x31 rFilterSet .config body Garden.filterSet)

/-- A curve does not decrease anywhere (R112). -/
def nonDecreasing : List Nat → Bool
  | a :: b :: l => decide (a ≤ b) && nonDecreasing (b :: l)
  | _ => true

/-- A new curve acts by the filter's state (R112). -/
def Bench.takeCurve (b : Bench) : Bench :=
  match b.water.filter.state with
  | .searching => b.beginSearch
  | .locked => b.beginSearch
  | .backwash => (b.putFilter { b.water.filter with step := b.water.cfg.minStep }).postFilter
  | .fault .noPower => b.postFilter.callForGrant filterLoad
  | .fault .clogPersists => b
  | .fault .noFlow => b
  | .fault .channelTrip => b
  | .stopped => b
  | .starved => b

/-- PUMP_CURVE_SET's check and effect; the fountain's chain reads the full watts (R112, R144). The filter acts
and settles before the chain is recomputed (DESIGN CHOICE, assumption log 81). -/
def Garden.curveSet (q : PumpCurveSet) (g : Garden) : Garden × Answer :=
  let curve := q.watts.map (clamp 0 3000)
  let m := clamp 1 16 q.minStep
  let full := clamp 50 1500 q.fullWatts
  if nonDecreasing curve.toList = false then g.refuse .inconsistent
  else
    let g := g.andSettle (fun b =>
      (b.setWaterCfg { b.water.cfg with curve := curve, minStep := m, fullWatts := full }).takeCurve)
    (g.on Bench.rechain).tell (groupFields curve.toList (fun w => [u2 w]) ++ [u1 m, u2 full])

/-- PUMP_CURVE_SET (R112). -/
def execPumpCurveSet (body : Body PumpCurveSet) (s : State) : Host.Outcome State Fault Refusal :=
  .next (s.request 0x32 rPumpCurve .config body Garden.curveSet)

/-! ### The host's filter requests (R108, R121, R123) -/

/-- FILTER_START (R108). -/
def execFilterStart (body : Body Unit) (s : State) : Host.Outcome State Fault Refusal :=
  .next (s.request 0x33 rNone .both body (fun _ g =>
    if g.water.filter.state = .stopped then (g.andSettle Bench.resumeFilter).tell []
    else (g, .refused .inconsistent [u1 g.water.filter.state.code])))

/-- FILTER_STOP (R108). -/
def execFilterStop (body : Body Unit) (s : State) : Host.Outcome State Fault Refusal :=
  .next (s.request 0x34 rNone .both body (fun _ g =>
    if g.water.filter.state = .stopped then g.tell []
    else (g.andSettle (fun b => b.leaveFor (b.water.filter.halted .stopped))).tell []))

/-- The code of a backwash outcome (R121). -/
def BackwashOutcome.code : BackwashOutcome → Nat
  | .started => 1
  | .clogPersists => 2
  | .valveTripped => 3

/-- FILTER_BACKWASH by state (R121). -/
def Garden.backwashRequest (g : Garden) : Garden × Answer :=
  if g.water.filter.state = .locked ∨ g.water.filter.state = .searching then
    (g.askBackwash .host).tell [u1 g.backwashTest.code]
  else (g, .refused .inconsistent [u1 g.water.filter.state.code])

/-- FILTER_BACKWASH (R121). -/
def execFilterBackwash (body : Body Unit) (s : State) : Host.Outcome State Fault Refusal :=
  .next (s.request 0x35 rNone .both body (fun _ g => g.backwashRequest))

/-- FILTER_CLEAR_FAULT by state and cause (R123). -/
def Garden.clearFilter (g : Garden) : Garden × Answer :=
  match g.water.filter.state with
  | .fault .clogPersists =>
    (g.andSettle (fun b => (b.putFilter { b.water.filter with lastBackwashEnd := none }).resumeFilter)).tell []
  | .fault .noFlow => (g.andSettle Bench.resumeFilter).tell []
  | .fault .noPower => (g.andSettle Bench.resumeFilter).tell []
  | .fault .channelTrip =>
    if g.power.fnTripped .filterPump || g.power.fnTripped .backwashValve then g.refuse .inconsistent
    else (g.andSettle Bench.resumeFilter).tell []
  | _ => g.refuse .inconsistent

/-- FILTER_CLEAR_FAULT (R123). -/
def execFilterClearFault (body : Body Unit) (s : State) : Host.Outcome State Fault Refusal :=
  .next (s.request 0x36 rNone .both body (fun _ g => g.clearFilter))

/-! ### WATER_GET (R125) -/

/-- The running time at which the search's phase ends: the settle expiry, or the gate's close, since R113's phase
expiry is absent in GATING (DESIGN CHOICE, assumption log 67). -/
def Filter.phaseEnds (f : Filter) (s : Search) : Option Nat :=
  match s.phase with
  | .raising => none
  | .settling => s.expiry
  | .gating => f.gate.map Gate.closes

/-- The search record (R113) as WATER_GET tells it: the seconds left of the phase stand in the place of its phase
expiry (DESIGN CHOICE, assumption log 66). -/
def Bench.searchFields (b : Bench) (s : Search) : List Field :=
  [u1 s.startStep, u1 s.candidate, u1 s.phase.code, optField u1 s.bestStep, optField (signedField 2) s.bestFom,
    u1 s.look, u1 s.trials, optField u1 ((b.water.filter.phaseEnds s).map b.secsLeft)]

/-- The running time at which a lock's interval, or its gate, ends. -/
def Filter.lockEnds (f : Filter) : Option Nat := f.monitor.orElse (fun _ => f.gate.map Gate.closes)

/-- The monitor's items (R125). The seconds left stand without a presence byte, since in LOCKED the interval or
its gate runs (DESIGN CHOICE, assumption log 49). -/
def Bench.monitorFields (b : Bench) (f : Filter) : List Field :=
  [u1 f.failing, optField (fun k : CheckKind => u1 k.code) f.failKind, u2 (b.secsLeft (f.lockEnds.getD 0))]

/-- A gate result with its margins under the settings in force (R125). -/
def GateResult.fields (r : GateResult) (c : FilterCfg) : List Field :=
  [u2 r.pulses, u2 r.q, u2 r.pre, u2 r.post, u2 r.dp, signedField 2 (flowMargin c r),
    signedField 2 (pressureMargin c r), signedField 2 (figureOfMerit c r)]

/-- The filter's items (R125). A group that is told only in some states (the limit, the search, the monitor, the
latest gate) takes one presence byte (DESIGN CHOICE, assumption log 49). The seconds since the last backwash end are
the elapsed milliseconds truncated (DESIGN CHOICE, assumption log 87), and the pump step is that of FILTER_STATE (DEDUCED,
assumption log 10). -/
def Bench.filterFields (b : Bench) : List Field :=
  let f := b.water.filter
  [u1 f.state.code, optField u1 f.state.cause?, u1 f.reportStep, optField u1 f.lockedStep, flag f.powerLimited,
    flag f.marginal] ++ optFields (fun l : Limit => [u1 l.step, u1 l.origin.code]) f.limit ++
    [optField (signedField 2) f.lockFom] ++
    optFields b.searchFields (if f.state = .searching then f.search else none) ++
    optFields b.monitorFields (if f.state = .locked then some f else none) ++ [u1 f.zeroFlow] ++
    optFields (fun r => r.fields b.water.cfg.filter) f.lastGate ++
    [optField u2 (f.backwashExpiry.map b.secsLeft),
      optField u4 (f.lastBackwashEnd.map b.secsSince)]

/-- What WATER_GET tells (R125). -/
def Bench.waterFields (b : Bench) : List Field :=
  let w := b.water
  [u2 w.level, flag w.starved, flag w.supplyLow, flag w.demand] ++ w.cfg.levels.fields ++
    [u1 w.topup.code, u2 w.capCount, u1 w.cfg.capMinutes, u1 w.cfg.topupWatts] ++ b.filterFields ++
    [u1 (if b.withheld then 2 else 1), u1 w.causes.mask] ++
    [u2 (b.load filterLoad).askA, u2 (b.load filterLoad).askB, u2 (b.load filterLoad).grantA,
      u2 (b.load filterLoad).grantB]

/-- WATER_GET (R125). -/
def execWaterGet (body : Body Nat) (s : State) : Host.Outcome State Fault Refusal :=
  .next (s.request 0x37 r1 .both body (fun p g => g.tellPage g.waterFields p))

/-! ### Samples and the valve's cap (R102, R104, R105) -/

/-- LEVEL_SAMPLE (R102). -/
def execLevelSample (level : Nat) (s : State) : Host.Outcome State Fault Refusal :=
  .next (s.event (·.andSettle (·.takeLevel (readPin 1500 level))))

/-- TOPUP_CAP_REACHED (R104): the cap count has reached the cap in OPEN. -/
def execTopupCapReached (s : State) : Host.Outcome State Fault Refusal :=
  .next (s.event (fun g =>
    if g.water.topup = .opened ∧ g.water.cfg.capSeconds ≤ g.water.capCount then g.andSettle Bench.capTopup else g))

/-- TOPUP_CAP_PERIOD_END (R105): with the clock UNSET, the running second count has passed the next multiple of 86,400.
The multiple is an instant like an expiry's, and each is taken once (DEDUCED, assumption log 25). -/
def execTopupCapPeriodEnd (s : State) : Host.Outcome State Fault Refusal :=
  .next (s.eventAt s.capPeriodEnds (·.andSettle Bench.passCapPeriod))

/-! ### Gates (R109, R114, R115, R117, R118) -/

/-- A gate opened now (R109). -/
def Bench.newGate (b : Bench) : Gate := ⟨0, b.now + 10000⟩

/-- SETTLE_EXPIRY (R114): a settling trial opens its gate. The record's phase expiry is then absent: the gate's
close ends the phase (DESIGN CHOICE, assumption log 67). -/
def Bench.endSettling (b : Bench) : Bench :=
  let f := b.water.filter
  match f.state, f.search with
  | .searching, some s =>
    if s.phase = .settling then
      b.putFilter { f with search := some { s with phase := .gating, expiry := none }, gate := some b.newGate }
    else b
  | _, _ => b

/-- The expiry of a trial that is SETTLING. -/
def Filter.searchExpiry (f : Filter) : Option Nat :=
  match f.state, f.search with
  | .searching, some s => if s.phase = .settling then s.expiry else none
  | _, _ => none

/-- The end of a lock's monitor interval. -/
def Filter.monitorEnds (f : Filter) : Option Nat := if f.state = .locked then f.monitor else none

/-- The end of a running backwash. -/
def Filter.backwashEnds (f : Filter) : Option Nat := if f.state = .backwash then f.backwashExpiry else none

/-- SETTLE_EXPIRY (R114). -/
def execSettleExpiry (s : State) : Host.Outcome State Fault Refusal :=
  .next (s.eventAt s.water.filter.searchExpiry (·.on Bench.endSettling))

/-- MONITOR_INTERVAL_END (R117): a lock's interval ends and its gate opens. -/
def execMonitorIntervalEnd (s : State) : Host.Outcome State Fault Refusal :=
  .next (s.eventAt s.water.filter.monitorEnds (·.on (fun b =>
    b.putFilter { b.water.filter with monitor := none, gate := some b.newGate })))

/-- FLOW_PULSE (R109): a pulse is counted while a gate is open. -/
def execFlowPulse (s : State) : Host.Outcome State Fault Refusal :=
  .next (s.event (·.on (fun b =>
    match b.water.filter.gate with
    | some gt => b.setWater { b.water with filter :=
        { b.water.filter with gate := some { gt with pulses := bump 65535 gt.pulses } } }
    | none => b)))

/-- The search after a trial's result, with whether it ends (R115). -/
def Search.take (s : Search) (c : FilterCfg) (fom : Int) : Search × Bool :=
  let first := s.bestStep.isNone
  let beats := first || decide (s.bestFom.getD 0 < fom)
  let look := if first then s.look else if beats then 0 else s.look + 1
  let s := { s with
    trials := s.trials + 1, look := look,
    bestStep := if beats then some s.candidate else s.bestStep,
    bestFom := if beats then some fom else s.bestFom }
  (s, (!beats && decide (c.lookBeyond ≤ look)) || decide (s.candidate = 16))

/-- A trial's result (R114, R115). -/
def Bench.takeTrial (b : Bench) (s : Search) (fom : Int) : Bench :=
  match s.take b.water.cfg.filter fom with
  | (s, true) => b.lockBest (s.bestStep.getD s.startStep) (s.bestFom.getD 0)
  | (s, false) =>
    (b.putFilter { b.water.filter with
      search := some { s with candidate := s.candidate + 1, phase := .raising, expiry := none } }).postFilter

/-- The kind of a check that fails on a result, if it fails (R117). -/
def checkFails (c : FilterCfg) (powerLimited : Bool) (r : GateResult) : Option CheckKind :=
  if c.dpClog < r.dp then some .clog
  else if powerLimited = false ∧ r.q < c.qMin then some .flow
  else none

/-- A check of the lock (R117). -/
def Garden.takeCheck (g : Garden) (r : GateResult) : Garden :=
  let f := g.water.filter
  let c := g.water.cfg.filter
  let again := some (g.now + c.monitorInterval * 1000)
  match checkFails c f.powerLimited r with
  | none => g.on (·.putFilter { f with failing := 0, monitor := again })
  | some kind =>
    if f.failing + 1 < c.confirmCount then
      g.on (·.putFilter { f with failing := f.failing + 1, failKind := some kind, monitor := again })
    else
      let g := g.on (·.putFilter { f with failing := 0, failKind := some kind })
      if kind = .clog then g.askBackwash .clog else g.on Bench.beginSearch

/-- The zero-flow count after a result (R118). -/
def WaterUnit.zeroFlowAfter (w : WaterUnit) (r : GateResult) : Nat :=
  if r.q ≠ 0 then 0 else if w.cfg.minStep ≤ w.filter.step then w.filter.zeroFlow + 1 else w.filter.zeroFlow

/-- A gate result taken: the zero-flow fault first, then the trial or the check (R115, R117, R118). -/
def Garden.takeResult (g : Garden) (r : GateResult) : Garden :=
  let zf := g.water.zeroFlowAfter r
  let g := g.on (fun b => b.putFilter { b.water.filter with gate := none, lastGate := some r, zeroFlow := zf })
  if 3 ≤ zf then g.on (fun b => b.moveFilter (b.water.filter.halted (.fault .noFlow)))
  else
    match g.water.filter.state, g.water.filter.search with
    | .searching, some s => g.on (·.takeTrial s (figureOfMerit g.water.cfg.filter r))
    | .locked, _ => g.takeCheck r
    | _, _ => g

/-- GATE_CLOSE (R109): the two pressures are read and the result taken. -/
def execGateClose (pre post : Nat) (s : State) : Host.Outcome State Fault Refusal :=
  .next (s.eventAt (s.water.filter.gate.map Gate.closes) (fun g =>
    match g.water.filter.gate with
    | some gt =>
      (g.takeResult (gateResult g.water.cfg.filter gt.pulses (readPin 4000 pre) (readPin 4000 post))).settle
    | none => g))

/-- BACKWASH_EXPIRY (R122). -/
def execBackwashExpiry (s : State) : Host.Outcome State Fault Refusal :=
  .next (s.eventAt s.water.filter.backwashEnds (fun g =>
    g.andSettle (fun b => b.endBackwash (b.water.filter.toSearching b.water.cfg))))

/-- UNIT_RESTART of the unit WATER (R127). -/
def execUnitRestartWater (body : Body UnitRef) (level : Nat) (s : State) : Host.Outcome State Fault Refusal :=
  .next (s.unitRestart 4 body (·.on (·.restartWater (readPin 1500 level))))

end Sys2Proof.Machine
end

