-- ==== Sys2Proof/Machine/Dispatch.lean ====
section
/-! DEFINITION. Each command's meaning: one arm for every constructor of `Instr`. -/

namespace Sys2Proof.Machine

/-- The effect of a command on everything but the queue of waiting commands. -/
def exec (i : Instr) (s : State) : Host.Outcome State Fault Refusal :=
  match i with
  | .powerOn level => Sys2Proof.Machine.execPowerOn level s
  | .hostFrameEnd byte stopError => Sys2Proof.Machine.execHostFrameEnd byte stopError s
  | .hostBadLength byte stopError => Sys2Proof.Machine.execHostBadLength byte stopError s
  | .hostFrameTimeout => Sys2Proof.Machine.execHostFrameTimeout s
  | .replySent => Sys2Proof.Machine.execReplySent s
  | .requestUnknownKind kind => Sys2Proof.Machine.execRequestUnknownKind kind s
  | .settingsStore body => Sys2Proof.Machine.execSettingsStore body s
  | .modeSetup body => Sys2Proof.Machine.execModeSetup body s
  | .modeRun body => Sys2Proof.Machine.execModeRun body s
  | .restart body level => Sys2Proof.Machine.execRestart body level s
  | .unitRestartField body => Sys2Proof.Machine.execUnitRestartField body s
  | .unitRestartFleet body => Sys2Proof.Machine.execUnitRestartFleet body s
  | .unitRestartPlanner body => Sys2Proof.Machine.execUnitRestartPlanner body s
  | .unitRestartWater body level => Sys2Proof.Machine.execUnitRestartWater body level s
  | .unitRestartShow body => Sys2Proof.Machine.execUnitRestartShow body s
  | .unitRestartLights body => Sys2Proof.Machine.execUnitRestartLights body s
  | .timeSet body => Sys2Proof.Machine.execTimeSet body s
  | .statusGet body => Sys2Proof.Machine.execStatusGet body s
  | .reportsFetch body => Sys2Proof.Machine.execReportsFetch body s
  | .reportMaskSet body => Sys2Proof.Machine.execReportMaskSet body s
  | .mapFill body => Sys2Proof.Machine.execMapFill body s
  | .zoneSet body => Sys2Proof.Machine.execZoneSet body s
  | .zoneGet body => Sys2Proof.Machine.execZoneGet body s
  | .cellsGet body => Sys2Proof.Machine.execCellsGet body s
  | .zoneWithdraw body => Sys2Proof.Machine.execZoneWithdraw body s
  | .zoneRestore body => Sys2Proof.Machine.execZoneRestore body s
  | .sourceSet body => Sys2Proof.Machine.execSourceSet body s
  | .sourceRemove body => Sys2Proof.Machine.execSourceRemove body s
  | .sourceGet body => Sys2Proof.Machine.execSourceGet body s
  | .countersCapture body => Sys2Proof.Machine.execCountersCapture body s
  | .calibrateStake body => Sys2Proof.Machine.execCalibrateStake body s
  | .calibrateSolve body => Sys2Proof.Machine.execCalibrateSolve body s
  | .calibrationGet body => Sys2Proof.Machine.execCalibrationGet body s
  | .fleetSet body => Sys2Proof.Machine.execFleetSet body s
  | .mowerGet body => Sys2Proof.Machine.execMowerGet body s
  | .mowerHold body => Sys2Proof.Machine.execMowerHold body s
  | .mowerRelease body => Sys2Proof.Machine.execMowerRelease body s
  | .mowerRecall body => Sys2Proof.Machine.execMowerRecall body s
  | .mowerClearFault body => Sys2Proof.Machine.execMowerClearFault body s
  | .mowerDispatch body => Sys2Proof.Machine.execMowerDispatch body s
  | .planSet body => Sys2Proof.Machine.execPlanSet body s
  | .mowingEnable body => Sys2Proof.Machine.execMowingEnable body s
  | .waterLevelsSet body => Sys2Proof.Machine.execWaterLevelsSet body s
  | .topupSet body => Sys2Proof.Machine.execTopupSet body s
  | .filterSet body => Sys2Proof.Machine.execFilterSet body s
  | .pumpCurveSet body => Sys2Proof.Machine.execPumpCurveSet body s
  | .filterStart body => Sys2Proof.Machine.execFilterStart body s
  | .filterStop body => Sys2Proof.Machine.execFilterStop body s
  | .filterBackwash body => Sys2Proof.Machine.execFilterBackwash body s
  | .filterClearFault body => Sys2Proof.Machine.execFilterClearFault body s
  | .waterGet body => Sys2Proof.Machine.execWaterGet body s
  | .showSet body => Sys2Proof.Machine.execShowSet body s
  | .showAppend body => Sys2Proof.Machine.execShowAppend body s
  | .showStart body => Sys2Proof.Machine.execShowStart body s
  | .showPause body => Sys2Proof.Machine.execShowPause body s
  | .showResume body => Sys2Proof.Machine.execShowResume body s
  | .showReset body => Sys2Proof.Machine.execShowReset body s
  | .showGet body => Sys2Proof.Machine.execShowGet body s
  | .lightSet body => Sys2Proof.Machine.execLightSet body s
  | .lightScheduleSet body => Sys2Proof.Machine.execLightScheduleSet body s
  | .motionMapSet body => Sys2Proof.Machine.execMotionMapSet body s
  | .lightManual body => Sys2Proof.Machine.execLightManual body s
  | .lightClearFault body => Sys2Proof.Machine.execLightClearFault body s
  | .lightGet body => Sys2Proof.Machine.execLightGet body s
  | .supplySet body => Sys2Proof.Machine.execSupplySet body s
  | .channelSet body => Sys2Proof.Machine.execChannelSet body s
  | .channelReset body => Sys2Proof.Machine.execChannelReset body s
  | .powerGet body => Sys2Proof.Machine.execPowerGet body s
  | .channelGet body => Sys2Proof.Machine.execChannelGet body s
  | .fieldFrameEnd line => Sys2Proof.Machine.execFieldFrameEnd line s
  | .orderAirTimeEnd => Sys2Proof.Machine.execOrderAirTimeEnd s
  | .blockListExpiry => Sys2Proof.Machine.execBlockListExpiry s
  | .wetMarkExpiry zone mark => Sys2Proof.Machine.execWetMarkExpiry zone mark s
  | .captureDeadline => Sys2Proof.Machine.execCaptureDeadline s
  | .heartbeatExpiry slot => Sys2Proof.Machine.execHeartbeatExpiry slot s
  | .arrivalExpiry slot => Sys2Proof.Machine.execArrivalExpiry slot s
  | .yieldExpiry slot => Sys2Proof.Machine.execYieldExpiry slot s
  | .passTimer => Sys2Proof.Machine.execPassTimer s
  | .dryWaitExpiry => Sys2Proof.Machine.execDryWaitExpiry s
  | .rainSilent => Sys2Proof.Machine.execRainSilent s
  | .clockSecond => Sys2Proof.Machine.execClockSecond s
  | .topupCapPeriodEnd => Sys2Proof.Machine.execTopupCapPeriodEnd s
  | .levelSample level => Sys2Proof.Machine.execLevelSample level s
  | .topupCapReached => Sys2Proof.Machine.execTopupCapReached s
  | .settleExpiry => Sys2Proof.Machine.execSettleExpiry s
  | .gateClose pre post => Sys2Proof.Machine.execGateClose pre post s
  | .monitorIntervalEnd => Sys2Proof.Machine.execMonitorIntervalEnd s
  | .backwashExpiry => Sys2Proof.Machine.execBackwashExpiry s
  | .storeWriteEnd readBackMatches => Sys2Proof.Machine.execStoreWriteEnd readBackMatches s
  | .showTick => Sys2Proof.Machine.execShowTick s
  | .waitEnd => Sys2Proof.Machine.execWaitEnd s
  | .windSilent => Sys2Proof.Machine.execWindSilent s
  | .duskDwellExpiry => Sys2Proof.Machine.execDuskDwellExpiry s
  | .duskSilent => Sys2Proof.Machine.execDuskSilent s
  | .motionHoldExpiry circuit => Sys2Proof.Machine.execMotionHoldExpiry circuit s
  | .escortHoldExpiry slot circuit => Sys2Proof.Machine.execEscortHoldExpiry slot circuit s
  | .currentSample volts => Sys2Proof.Machine.execCurrentSample volts s
  | .lampOpenFault circuit => Sys2Proof.Machine.execLampOpenFault circuit s
  | .supplySample volts => Sys2Proof.Machine.execSupplySample volts s
  | .powerDerated => Sys2Proof.Machine.execPowerDerated s
  | .powerRestored => Sys2Proof.Machine.execPowerRestored s
  | .switchHoldExpiry channel => Sys2Proof.Machine.execSwitchHoldExpiry channel s
  | .hostByteReceived byte stopError => Sys2Proof.Machine.execHostByteReceived byte stopError s
  | .fieldByteReceived line byte stopError => Sys2Proof.Machine.execFieldByteReceived line byte stopError s
  | .flowPulse => Sys2Proof.Machine.execFlowPulse s

end Sys2Proof.Machine
end

