-- ==== Sys2Proof/Machine/Step.lean ====
section
/-! DEFINITION. The step: the command at the front of the queue is run on the rest; an empty queue lets a
millisecond of running time pass within the present second (assumption log 1). -/

namespace Sys2Proof.Machine

/-- The block idles: the milliseconds of the present second run on (assumption log 1). -/
def State.idle (s : State) : State := { s with time := s.time.tick }

/-- One step: the command at the front of the queue, or idling on an empty queue. -/
def step (s : State) : Host.Outcome State Fault Refusal :=
  match s.pending with
  | [] => .next s.idle
  | c :: rest => exec c { s with pending := rest }

/-- A command put at the front of the queue. -/
def State.withCommand (s : State) (c : Instr) : State := { s with pending := c :: s.pending }

/-- The command that a table word spells put at the front of the queue; the state as it is where the word
spells none. -/
def State.withFetchWord (s : State) (nbits w : Nat) : State :=
  match Sys2Proof.decodeTableWord nbits w with
  | some c => s.withCommand c
  | none => s

end Sys2Proof.Machine
end

