-- ==== Sys2Proof/Safety.lean ====
section
/-! DEFINITION. What the claims speak of: request commands as R185 tables them, a request in service and
its answer, and the bounds that every step keeps. -/

namespace Sys2Proof.Machine

/-! ### Request commands (R185) -/

/-- Whether the bytes of a request body spell a command's body. -/
def spells {α : Type} [DecidableEq α] (r : Reader α) (body : Body α) (bytes : List Byte) : Bool :=
  decide (readBody r bytes = body)

/-- What a request command is on the link: its KIND code, the bodies that spell it, how the mode and the
store gate it, and whether its body's length is wrong (R185). -/
structure RequestForm where
  kind : Nat
  spelled : List Byte → Bool
  access : Access
  badLength : Bool

/-- The form of a request whose body a reader reads. -/
def formOf {α : Type} [DecidableEq α] (kind : Nat) (r : Reader α) (a : Access) (body : Body α) : RequestForm :=
  ⟨kind, spells r body, a, decide (body = .wrongLength)⟩

/-- The form of a UNIT_RESTART command. -/
def unitForm (unit : Nat) (body : Body UnitRef) : RequestForm :=
  ⟨0x14, unitBodyIs unit body, .both, decide (body = .wrongLength)⟩

/-- The form of a request command with a known KIND; an event has none (R185). -/
def formFor : Instr → Option RequestForm
  | .powerOn _ => none
  | .hostFrameEnd _ _ => none
  | .hostBadLength _ _ => none
  | .hostFrameTimeout => none
  | .replySent => none
  | .requestUnknownKind _ => none
  | .settingsStore body => some (formOf 0x10 rNone .config body)
  | .modeSetup body => some (formOf 0x11 rNone .both body)
  | .modeRun body => some (formOf 0x12 rNone .both body)
  | .restart body _ => some (formOf 0x13 rNone .both body)
  | .unitRestartField body => some (unitForm 1 body)
  | .unitRestartFleet body => some (unitForm 2 body)
  | .unitRestartPlanner body => some (unitForm 3 body)
  | .unitRestartWater body _ => some (unitForm 4 body)
  | .unitRestartShow body => some (unitForm 5 body)
  | .unitRestartLights body => some (unitForm 6 body)
  | .timeSet body => some (formOf 0x15 rTimeSet .both body)
  | .statusGet body => some (formOf 0x16 r1 .both body)
  | .reportsFetch body => some (formOf 0x17 rNone .both body)
  | .reportMaskSet body => some (formOf 0x18 rMask .both body)
  | .mapFill body => some (formOf 0x19 rMapFill .config body)
  | .zoneSet body => some (formOf 0x1A rZoneSet .config body)
  | .zoneGet body => some (formOf 0x1B rPaged .both body)
  | .cellsGet body => some (formOf 0x1C rCellsGet .both body)
  | .zoneWithdraw body => some (formOf 0x1D r1 .both body)
  | .zoneRestore body => some (formOf 0x1E r1 .both body)
  | .sourceSet body => some (formOf 0x1F rSourceSet .config body)
  | .sourceRemove body => some (formOf 0x20 r1 .config body)
  | .sourceGet body => some (formOf 0x21 r1 .both body)
  | .countersCapture body => some (formOf 0x22 rNone .both body)
  | .calibrateStake body => some (formOf 0x23 rCalibrateStake .config body)
  | .calibrateSolve body => some (formOf 0x24 rNone .config body)
  | .calibrationGet body => some (formOf 0x25 rNone .both body)
  | .fleetSet body => some (formOf 0x26 rFleetSet .config body)
  | .mowerGet body => some (formOf 0x27 rPaged .both body)
  | .mowerHold body => some (formOf 0x28 r1 .both body)
  | .mowerRelease body => some (formOf 0x29 r1 .both body)
  | .mowerRecall body => some (formOf 0x2A r1 .both body)
  | .mowerClearFault body => some (formOf 0x2B r1 .both body)
  | .mowerDispatch body => some (formOf 0x2C r1 .runOnly body)
  | .planSet body => some (formOf 0x2D rPlanSet .config body)
  | .mowingEnable body => some (formOf 0x2E rFlag .both body)
  | .waterLevelsSet body => some (formOf 0x2F rLevels .config body)
  | .topupSet body => some (formOf 0x30 rTopup .config body)
  | .filterSet body => some (formOf 0x31 rFilterSet .config body)
  | .pumpCurveSet body => some (formOf 0x32 rPumpCurve .config body)
  | .filterStart body => some (formOf 0x33 rNone .both body)
  | .filterStop body => some (formOf 0x34 rNone .both body)
  | .filterBackwash body => some (formOf 0x35 rNone .both body)
  | .filterClearFault body => some (formOf 0x36 rNone .both body)
  | .waterGet body => some (formOf 0x37 r1 .both body)
  | .showSet body => some (formOf 0x38 rShowSet .config body)
  | .showAppend body => some (formOf 0x39 rSteps .both body)
  | .showStart body => some (formOf 0x3E rNone .runOnly body)
  | .showPause body => some (formOf 0x3A rNone .both body)
  | .showResume body => some (formOf 0x3B rNone .both body)
  | .showReset body => some (formOf 0x3C rNone .both body)
  | .showGet body => some (formOf 0x3D r1 .both body)
  | .lightSet body => some (formOf 0x3F rLightSet .config body)
  | .lightScheduleSet body => some (formOf 0x40 rLightSchedule .config body)
  | .motionMapSet body => some (formOf 0x41 rMotionMap .config body)
  | .lightManual body => some (formOf 0x42 rLightManual .both body)
  | .lightClearFault body => some (formOf 0x43 r1 .both body)
  | .lightGet body => some (formOf 0x44 rPaged .both body)
  | .supplySet body => some (formOf 0x45 rSupplySet .config body)
  | .channelSet body => some (formOf 0x46 rChannelSet .config body)
  | .channelReset body => some (formOf 0x47 r1 .both body)
  | .powerGet body => some (formOf 0x48 r1 .both body)
  | .channelGet body => some (formOf 0x49 r1 .both body)
  | .fieldFrameEnd _ => none
  | .orderAirTimeEnd => none
  | .blockListExpiry => none
  | .wetMarkExpiry _ _ => none
  | .captureDeadline => none
  | .heartbeatExpiry _ => none
  | .arrivalExpiry _ => none
  | .yieldExpiry _ => none
  | .passTimer => none
  | .dryWaitExpiry => none
  | .rainSilent => none
  | .clockSecond => none
  | .topupCapPeriodEnd => none
  | .levelSample _ => none
  | .topupCapReached => none
  | .settleExpiry => none
  | .gateClose _ _ => none
  | .monitorIntervalEnd => none
  | .backwashExpiry => none
  | .storeWriteEnd _ => none
  | .showTick => none
  | .waitEnd => none
  | .windSilent => none
  | .duskDwellExpiry => none
  | .duskSilent => none
  | .motionHoldExpiry _ => none
  | .escortHoldExpiry _ _ => none
  | .currentSample _ => none
  | .lampOpenFault _ => none
  | .supplySample _ => none
  | .powerDerated => none
  | .powerRestored => none
  | .switchHoldExpiry _ => none
  | .hostByteReceived _ _ => none
  | .fieldByteReceived _ _ _ => none
  | .flowPulse => none

/-- A request of a form is decided now: it arrives on an idle link, or it is the undecided request in
service (R184). -/
def State.serves (s : State) (f : RequestForm) : Prop :=
  match s.link.queue with
  | [] => True
  | q :: _ => s.link.answered = false ∧ q.kind.toNat = f.kind ∧ f.spelled q.body = true

/-- A command is a request that is decided now. -/
def State.servesCommand (s : State) (c : Instr) : Prop :=
  match formFor c with
  | some f => s.serves f
  | none => False

/-- The link with an answer given to the request in service, its TAG copied into the reply (R182, R184). -/
def Link.answer (l : Link) (a : Answer) : Link :=
  match l.queue with
  | [] => { l with reply := some (a.reply none) }
  | q :: _ => { l with answered := true, reply := some (a.reply (some q.tag)) }

/-- The state after an answered request: the garden as the owner left it, the answer on the link. -/
def State.answer (s : State) (g : Garden) (a : Answer) : State :=
  { s with toGarden := g, link := s.link.answer a }

/-- The mode and the store let a request through (R185). -/
def State.allows (s : State) (a : Access) : Prop :=
  match a with
  | .config => s.mode = .setup ∧ s.store.writing = none
  | .both => True
  | .runOnly => s.mode = .run

/-- A request command is taken: decided now, its body of the right length, and let through (R185). -/
def State.takes (s : State) (c : Instr) : Prop :=
  match formFor c with
  | some f => s.serves f ∧ f.badLength = false ∧ s.allows f.access
  | none => False

/-! ### Frames: what an allocation can change

`Bench.calm` blanks everything that the owners may change while they act on their grants (R171). Two
benches with the same `calm` differ in nothing else: asks, grants and channel levels, the valve, the filter,
the supply's causes, the wet marks, heights and dry flag, outputs between OFF and LIT, the choice between
DOCKED and CHARGING, and posted reports. -/

/-- A zone without its wet marks. -/
def Zone.calm (z : Zone) : Zone := { z with splashMarks := ⟨.absent, .absent, .absent, .absent⟩, dischargeMark := .absent }

/-- A slot without its charger level and the choice between DOCKED and CHARGING. -/
def FleetSlot.calm (x : FleetSlot) : FleetSlot :=
  { x with chargerLevel := 0, ctx := { x.ctx with state := if x.ctx.state.atDock then .docked else x.ctx.state } }

/-- WU without the valve, the filter but for its latest gate result, and the supply's causes. -/
def WaterUnit.calm (w : WaterUnit) : WaterUnit :=
  { w with topup := .closed, filter := { Filter.start with lastGate := w.filter.lastGate }, causes := ⟨false, false, false⟩ }

/-- SE without its splash marks, heights and dry flag. -/
def ShowUnit.calm (u : ShowUnit) : ShowUnit :=
  { u with held := ⟨false, false, false, false⟩,
           heights := ⟨Heights.zero, Heights.zero, Heights.zero, Heights.zero⟩, dry := false }

/-- A lamp without its output and the choice between OFF and LIT. -/
def LampCircuit.calm (x : LampCircuit) : LampCircuit :=
  { x with output := 0, state := x.state.follow 0 }

/-- A channel without its levels and times; a TRIPPED channel keeps its applied level. -/
def Channel.calm (c : Channel) : Channel :=
  { c with requested := 0, applied := if c.state = .tripped then c.applied else 0,
           state := if c.state = .tripped then .tripped else .idle,
           lastSwitch := if c.state = .tripped then c.lastSwitch else none,
           holdExpiry := if c.state = .tripped then c.holdExpiry else none, frequency := 0 }

/-- PW without loads, totals and channel levels. -/
def PowerUnit.calm (p : PowerUnit) : PowerUnit :=
  { p with loads := Vector.replicate 18 Load.zero, totals := Totals.zero, channels := p.channels.map Channel.calm,
           realloc := false }

/-- The bench without what an allocation and the owners' actions on it can change. -/
def Bench.calm (b : Bench) : Bench where
  time := b.time
  clock := b.clock
  reports := ⟨[], 0, b.reports.mask⟩
  ground := { b.ground with zones := b.ground.zones.map Zone.calm }
  fleet := ⟨b.fleet.s0.calm, b.fleet.s1.calm, b.fleet.s2.calm⟩
  water := b.water.calm
  shows := b.shows.calm
  lights := { b.lights with circuits := b.lights.circuits.map LampCircuit.calm }
  power := b.power.calm
  freeDrawn := b.freeDrawn

/-! ### Frames: what the mowers' work can change

`Garden.steady` blanks, beyond `calm`, what a dispatch, a lane, an order or a way home changes. -/

/-- A slot's configuration and the items its last delivery wrote. -/
def FleetSlot.steady (x : FleetSlot) : FleetSlot :=
  ⟨x.cfg, { MowerCtx.start with
    battery := x.ctx.battery, lastDocked := x.ctx.lastDocked, lastLifted := x.ctx.lastLifted,
    lastEcho := x.ctx.lastEcho, lastHeard := x.ctx.lastHeard, faultCode := x.ctx.faultCode }, 0⟩

/-- A zone's configuration. -/
def Zone.steady (z : Zone) : Zone := Zone.fresh z.cfg

/-- A lamp without its escorts. -/
def LampCircuit.steady (x : LampCircuit) : LampCircuit :=
  { x with escorts := ⟨Contribution.zero, Contribution.zero, Contribution.zero⟩ }

/-- The planner without its queue, rounds, lanes, yields and set-aside lists. -/
def Planner.steady (p : Planner) : Planner :=
  { p with due := [], lastRound := Vector.replicate 48 none, lanes := ⟨none, none, none⟩,
           yields := ⟨none, none, none⟩, setAside := ⟨[], [], []⟩ }

/-- Field Lines without the transmit queue and the counts of dropped orders. -/
def FieldUnit.steady (f : FieldUnit) : FieldUnit :=
  { f with tx := Transmit.empty, live := { f.live with droppedUrgent := 0, droppedNormal := 0 } }

/-- PU without the trackers, which follow the lanes. -/
def PositionUnit.steady (p : PositionUnit) : PositionUnit :=
  { p with tracks := ⟨{ p.tracks.s0 with tracker := 0 }, { p.tracks.s1 with tracker := 0 },
      { p.tracks.s2 with tracker := 0 }⟩ }

/-- The bench without the cells, and without what the mowers' work and an allocation change. -/
def Bench.steady (b : Bench) : Bench :=
  let c := b.calm
  { c with
    ground := ⟨[], c.ground.zones.map Zone.steady, c.ground.blockList⟩,
    fleet := ⟨c.fleet.s0.steady, c.fleet.s1.steady, c.fleet.s2.steady⟩,
    lights := { c.lights with circuits := c.lights.circuits.map LampCircuit.steady } }

/-- The garden without the cells, and without what the mowers' work and an allocation change. -/
def Garden.steady (g : Garden) : Garden :=
  ⟨g.toBench.steady, g.mode, g.field.steady, g.position.steady, g.planner.steady⟩

/-- Every cell keeps its zone and its blocked flag. -/
def MapUnit.sameCells (m n : MapUnit) : Prop :=
  ∀ a, (n.cell a).zone = (m.cell a).zone ∧ (n.cell a).blocked = (m.cell a).blocked

/-- From `g` to `h` only what the mowers' work and an allocation change has changed; on a grid in its
canonical form every cell keeps its zone and its blocked flag. -/
def Garden.onlyMowers (g h : Garden) : Prop :=
  h.steady = g.steady ∧ (g.ground.grid.wf = true → g.ground.sameCells h.ground)

/-- No cell holds a claim of a slot. -/
def MapUnit.noClaims (m : MapUnit) (k : Slot) : Prop := ∀ a, (m.cell a).claim ≠ some k

/-- HL's side of an answered request: the answer on the link, the store and the waiting commands as they
were. -/
def State.replied (s t : State) (a : Answer) : Prop :=
  t.link = s.link.answer a ∧ t.store = s.store ∧ t.pending = s.pending

/-- HL's items stand: the link, the store and the waiting commands. -/
def State.sameHost (s t : State) : Prop := t.link = s.link ∧ t.store = s.store ∧ t.pending = s.pending

/-- The bench apart, everything of the garden stands: the mode, Field Lines, PU and MP. -/
def Garden.sameBeyondBench (g h : Garden) : Prop :=
  h.mode = g.mode ∧ h.field = g.field ∧ h.position = g.position ∧ h.planner = g.planner

/-- Among the reports that a step posts, each under the stamp of its start and decided on the queue as it then
stands (R191), is `r`. -/
def Bench.told (b a : Bench) (r : ReportBody) : Prop :=
  ∃ before after : List ReportBody,
    a.reports = (before ++ r :: after).foldl (fun q x => q.add b.stamp x) b.reports

/-- A slot without a lane, a yield record, set-aside cells and claims. -/
def Garden.freed (g : Garden) (k : Slot) : Prop :=
  g.lane k = none ∧ g.planner.yields.get k = none ∧ g.planner.setAside.get k = [] ∧ g.ground.noClaims k

/-- The revocation notices of a step that takes the claims on the cells of `lost` away (R13, R15, R68, R93): a mower
MOWING or PAUSED that holds one of them is PAUSED (WET), and told of at the change. Without a lane it stays there; with one
its claims and its yield are gone, and it is OUTBOUND on another lane or HOMEBOUND (LANE_DONE_NO_WORK). -/
def Garden.notifies (g h : Garden) (lost : CellAddr → Prop) : Prop :=
  ∀ (j : Slot) (a : CellAddr), lost a → (g.ground.cell a).claim = some j →
    (g.mower j).state = .mowing ∨ (g.mower j).state.isPaused = true →
    ((g.mower j).state ≠ .paused .wet → g.told h.toBench (.mowerState j (.paused .wet) none (g.mower j).battery)) ∧
    (g.lane j = none → (h.mower j).state = .paused .wet ∧
      ((g.mower j).state = .mowing → (h.mower j).outstanding = some ⟨(g.mower j).nextOrder, .hold, 0⟩)) ∧
    ((g.lane j).isSome = true → h.ground.noClaims j ∧ h.planner.yields.get j = none ∧
      (((h.mower j).state = .homebound .laneDoneNoWork ∧ h.freed j) ∨
        ((h.mower j).state = .outbound ∧ (h.lane j).isSome = true)))

/-- A cell is available to a slot in a zone: it carries the zone's number, counts as unmown against the
round-start, is mowable, and is not set aside (R82). -/
def Garden.availableTo (g : Garden) (k : Slot) (z : ZoneId) (a : CellAddr) : Prop :=
  (g.ground.cell a).zone = some z ∧ g.ground.mowable a = true ∧ a ∉ g.planner.setAside.get k ∧
    ∀ d ∈ (g.ground.cell a).lastMown, ∃ r ∈ (g.ground.zone z).roundStart, dayDistance d r < 0

/-- The day on which a zone is due: its last round day plus its interval, or today (R77). -/
def Garden.dueDay (g : Garden) (z : ZoneId) : Nat :=
  match tget g.planner.lastRound z with
  | some d => (d + (g.ground.zone z).cfg.interval) % 65536
  | none => g.today

/-- The due queue stands in its order: by the distance of the due day from today, then by zone number (R77). -/
def Garden.dueSorted (g : Garden) : Prop :=
  g.planner.due.Pairwise (fun e f => dayDistance e.due g.today < dayDistance f.due g.today ∨
    (dayDistance e.due g.today = dayDistance f.due g.today ∧ e.zone.val < f.zone.val))

/-- From `g` to `h` only LU's requests, and what an allocation changes, have changed. -/
def Garden.onlyLights (g h : Garden) : Prop :=
  g.sameBeyondBench h ∧ h.toBench.calm = { g.toBench with lights := h.lights }.calm

/-- A dispatch pass takes `g` to `h` (R80, R81): in SETUP, where a planner condition fails and where no mower is
ready it changes nothing; a mower away from its dock keeps its state and its lane; the lowest slot that is ready gets
a lane in the first entry of the due queue that is due, free and dry, where that zone has an unmown, mowable cell. -/
def Garden.passes (g h : Garden) : Prop :=
  g.onlyMowers h ∧
    (g.mode = .setup ∨ g.mayMow = false ∨ (∀ k, g.ready k = false) → h = g) ∧
    (∀ k, (g.mower k).state.atDock = false → (h.mower k).state = (g.mower k).state ∧ h.lane k = g.lane k) ∧
    ∀ (k : Slot) (e : DueEntry) (a : CellAddr), g.mode = .run → g.mayMow = true → g.ready k = true →
      (∀ j, slotNo j < slotNo k → g.ready j = false) → g.planner.due.find? g.dueAndFree = some e →
      g.ground.grid.wf = true → (g.ground.cell a).zone = some e.zone → g.ground.mowable a = true →
      (∀ d ∈ (g.ground.cell a).lastMown, dayDistance d ((g.ground.zone e.zone).roundStart.getD g.today) < 0) →
      (h.mower k).state = .outbound ∧ (h.lane k).map Lane.zone = some e.zone ∧
      (h.ground.zone e.zone).assigned = some k ∧
      ∀ x ∈ h.lane k, (h.mower k).outstanding = some ⟨(g.mower k).nextOrder, .goLane (h.laneFields x), 0⟩

/-- The garden in which FU takes the state step of a current POSITION delivery: the capture has counted it, the track
record is written, FU has read its fields and tested the echo (R40, R46, R55). -/
def Garden.heard (g : Garden) (k : Slot) (sequence : Nat) (rx ry : Int) (h : Heartbeat) : Garden :=
  ((g.capturePosition k rx ry).writeTrack k sequence rx ry).hearFields k h

/-- A step of the play leaves the show as `u`, up to heights and marks; LU's circuits follow, nothing else
does. -/
def State.playsTo (s t : State) (u : ShowUnit) : Prop :=
  s.toGarden.sameBeyondBench t.toGarden ∧ t.shows.calm = u.calm ∧
    t.toBench.calm = { s.toBench with shows := t.shows, lights := t.lights }.calm

/-- The show faults (R139): FAULTED, with the nozzles at 0, no owned circuit and no saved context; the ring
stands, and SHOW_FAULT gives the cause and the ring position of an offset from the head. -/
def State.faultsShow (s t : State) (cause : ShowFaultCause) (offset : Nat) : Prop :=
  s.toGarden.sameBeyondBench t.toGarden ∧ t.shows.engine = .faulted ∧ t.shows.steps = s.shows.steps ∧
    t.shows.head = s.shows.head ∧ t.shows.stack = [] ∧ t.shows.ctx.owned = [] ∧
    t.shows.ctx.nozzles = ⟨⟨0, 0, none⟩, ⟨0, 0, none⟩, ⟨0, 0, none⟩, ⟨0, 0, none⟩⟩ ∧
    s.toBench.told t.toBench (.showFault cause ((s.shows.head + offset) % 512)) ∧
    t.toBench.calm = { s.toBench with shows := t.shows, lights := t.lights }.calm

/-- A scene that owns the circuits of `set` has begun at `head` of a ring of `steps`, and has come to a WAIT of
`ms` as its second step; the nozzle values carry over (R134, R135). A circuit that was owned keeps its entry, one that
joins starts at the output LU holds for it, LU has every owned circuit's show level, and one that leaves has no SHOW request
(R133). -/
def State.sceneBegun (s t : State) (head : Nat) (steps : List ShowStep) (set : List Circuit) (ms : Nat) : Prop :=
  s.toGarden.sameBeyondBench t.toGarden ∧ t.shows.engine = .running ∧ t.shows.steps = steps ∧
    t.shows.head = head ∧ t.shows.scene = some ⟨2, some ((max 50 (min 600000 ms) + 49) / 50), none, none⟩ ∧
    t.shows.ctx.nozzles = s.shows.ctx.nozzles ∧ t.shows.ctx.defaultRamp = s.shows.ctx.defaultRamp ∧
    t.shows.ctx.owned.map Owned.circuit = setOf (fun c => set.contains c) ∧
    (∀ o ∈ t.shows.ctx.owned, (t.lamp o.circuit).shows = some o.level.value ∧
      (∀ p, s.shows.ctx.owned.find? (fun p => p.circuit = o.circuit) = some p → o = p) ∧
      ((∀ p ∈ s.shows.ctx.owned, p.circuit ≠ o.circuit) →
        o.level = ⟨(s.lamp o.circuit).output, (s.lamp o.circuit).output, none⟩)) ∧
    (∀ o ∈ s.shows.ctx.owned, set.contains o.circuit = false → (t.lamp o.circuit).shows = none) ∧
    t.toBench.calm = { s.toBench with shows := t.shows, lights := t.lights }.calm

/-! ### Runs of commands -/

/-- Commands run one after another. -/
def runCommands : List Instr → State → Host.Outcome State Fault Refusal
  | [], s => .next s
  | c :: l, s =>
    match exec c s with
    | .next t => runCommands l t
    | .fault f => .fault f
    | .refused r => .refused r

/-! ### A frame heard on a field line (R21) -/

/-- The frame that ends on a line passes the six tests of R21: its source, the entry of the source, the
frame, and the duplicate window that it leaves. -/
structure FieldUnit.Hears (f : FieldUnit) (l : Line) (i : SourceId) (src : Source) (fr : FieldFrame)
    (w : Window) : Prop where
  gathering : (f.rx.get l).gathering = true
  size : 7 ≤ (f.rx.get l).count ∧ (f.rx.get l).count ≤ 31
  undamaged : (f.rx.get l).damaged = false
  integrity : parseFieldFrame (f.rx.get l).kept = some fr
  number : index? 40 fr.source = some i
  entry : tget f.sources i = some src
  kind : senderOf fr.kind = some src.cfg.kind
  line : bindingTakes src.cfg.binding l = true
  window : src.window.take fr.sequence fr.fresh = (.good, w)

/-- Field Lines after a GOOD frame: the frame counted, the receiver idle, the source's last-heard and window
written (R21, R23, R26, R30). -/
def FieldUnit.afterGood (f : FieldUnit) (l : Line) (i : SourceId) (src : Source) (w : Window) (secs : Nat) : FieldUnit :=
  ({ f with
    rx := f.rx.put l FieldRx.idle,
    sources := tset f.sources i (some ⟨src.cfg, some secs, w⟩) }).count l .good

/-! ### Bounds that every step keeps -/

/-- The request queue and the five link counters stay within their limits, a frame is gathered up to its
CRC at most, and an answer belongs to a request that stands in the queue (R183, R184). -/
def Link.bounded (l : Link) : Prop :=
  (l.answered = true → l.queue ≠ []) ∧
    (l.rx.state = .gathering → l.rx.len ≤ 200 ∧ l.rx.taken.length < l.rx.len + 4) ∧
    l.queue.length ≤ 4 ∧ l.counters.good ≤ 65535 ∧ l.counters.badLength ≤ 65535 ∧ l.counters.badCrc ≤ 65535 ∧
    l.counters.truncated ≤ 65535 ∧ l.counters.queueFull ≤ 65535

/-- The report queue, the lost-report count and the mask stay within their limits (R191, R192). -/
def Reports.bounded (q : Reports) : Prop :=
  q.queue.length ≤ 32 ∧ q.lost ≤ 255 ∧ q.mask &&& allReports = q.mask

/-- The transmit queue holds at most 16 orders, and an idle transmitter has none waiting (R33, R34). -/
def Transmit.bounded (t : Transmit) : Prop :=
  t.size ≤ 16 ∧ (t.inFlight = none → t.urgent = [] ∧ t.normal = [])

/-- A wet zone holds no claimed cell: mowers and water stay apart (R8, R11, R13). -/
def MapUnit.apart (m : MapUnit) : Prop :=
  ∀ p ∈ m.grid, ∀ z, p.2.zone = some z → (m.zone z).wet = true → p.2.claim = none

/-- The block list: at most 64 entries in order of expiry, no cell twice, and a cell is blocked exactly
while it has an entry (R1, R6). -/
def MapUnit.blocksAgree (m : MapUnit) : Prop :=
  m.blockList.length ≤ 64 ∧ m.blockList.Pairwise (fun e f => e.expiry ≤ f.expiry) ∧
    (m.blockList.map BlockEntry.cell).Nodup ∧
    ∀ a, (m.cell a).blocked = m.blockList.any (fun e => e.cell = a)

/-- The grants together stay within the available watts (R166, R170). -/
def PowerUnit.wattsBounded (p : PowerUnit) : Prop :=
  (p.loads.toList.map (fun l => l.grantA + l.grantB)).sum ≤ p.available

/-- No circuit's output stands above what its grants pay for, and a circuit that is out of use or FAULT_SHORT
is at 0 (R152, R159, R161). -/
def Bench.lampsBounded (b : Bench) : Prop :=
  ∀ c, (b.lamp c).output ≤ b.lampCap c ∧
    ((b.lamp c).cfg.inUse = false ∨ (b.lamp c).state.isShort = true → (b.lamp c).output = 0)

/-- PW holds the filter's two asks as R107 tables them by its state: w(m) and what the candidate, the locked step or the
limit step takes beyond it, w(m) alone in BACKWASH and FAULT (NO_POWER), and nothing otherwise. -/
def Bench.filterPosted (b : Bench) : Prop :=
  let w := b.water.cfg.watts
  let m := b.water.cfg.minStep
  let f := b.water.filter
  let posted := fun base extra => (b.load filterLoad).askA = base ∧ (b.load filterLoad).askB = extra
  match f.state with
  | .searching => ∀ r ∈ f.search, posted (w m) (w r.candidate - w m)
  | .locked => posted (w m) (w ((f.limit.map Limit.step).getD (f.lockedStep.getD m)) - w m)
  | .backwash => posted (w m) 0
  | .fault .noPower => posted (w m) 0
  | .fault .clogPersists => posted 0 0
  | .fault .noFlow => posted 0 0
  | .fault .channelTrip => posted 0 0
  | .stopped => posted 0 0
  | .starved => posted 0 0

/-- A gate is open only for a check, in LOCKED, or for a trial that is GATING (R109, R114, R117). -/
def Filter.gateInPhase (f : Filter) : Prop :=
  f.gate.isSome = true → f.state = .locked ∨ (f.state = .searching ∧ f.search.map Search.phase = some .gating)

/-- Stored cells in the order of the grid, each of a zone. -/
def Settings.cellsOk (c : Settings) : Prop :=
  c.cellZones.Pairwise (fun p q => p.1 < q.1) ∧ ∀ p ∈ c.cellZones, p.1 < 6144

/-- The map and every stored map are in their canonical form, wet zones and mowers are apart, and the block
list agrees with the cells. -/
def State.mapSound (s : State) : Prop :=
  s.ground.grid.wf = true ∧ s.ground.apart ∧ s.ground.blocksAgree ∧
    (∀ c, s.store.one = some c → c.settings.cellsOk) ∧ (∀ c, s.store.two = some c → c.settings.cellsOk) ∧
    (∀ w, s.store.writing = some w → w.snapshot.cellsOk)

end Sys2Proof.Machine
end

