-- ==== Sys2Proof/Certificates/Slice0/Obligations.lean ====
section
/-! DEFINITION. The statements for the provers, one `def Obligations.<Name> : Prop` each; OBLIGATIONS.json lists
them. `s.takes c` says that a request command is the request decided now, its body of the right length and let
through by the mode and the store; `s.answer g a` is the state after it. `calm`, `steady` and `onlyMowers`
(Safety) are the frames: what an allocation, and what the mowers' work, can change. -/

open Sys2Proof Sys2Proof.Machine

/-! ### Host Link -/

/-- The step runs the command at the front of the queue on the rest of the queue; on an empty queue the block
idles: a millisecond of the present second passes, up to its last (the model's own choice, assumption log 1). -/
def Obligations.StepRunsTheFrontCommand : Prop :=
  (∀ (c : Instr) (rest : List Instr) (s : State), s.pending = c :: rest →
    step s = exec c { s with pending := rest }) ∧
  (∀ s : State, s.pending = [] →
    step s = .next { s with time := ⟨s.time.secs, if s.time.ms < 999 then s.time.ms + 1 else s.time.ms⟩ })

/-- Every command has an effect or is turned away with none: `exec` always answers a next state, and it leaves
the waiting commands as they are. No command of the part stops it (the table gives each row a rule). -/
def Obligations.EveryCommandGoesOn : Prop :=
  ∀ (c : Instr) (s : State), ∃ t, exec c s = .next t ∧ t.pending = s.pending

/-- The bounds of the link and of the report queue are kept by every step: at most 4 requests, the five link counters
within 65,535, a frame gathered no further than its CRC, an answer only for a request that stands in the queue; at most
32 reports, the lost count within 255, no bit of the mask outside the 23 kinds (R183, R184, R191, R192). -/
def Obligations.LinkAndReportBoundsKept : Prop :=
  (∀ s t : State, s.link.bounded → step s = .next t → t.link.bounded) ∧
  (∀ s t : State, s.reports.bounded → step s = .next t → t.reports.bounded)

/-- The power bounds are kept by every step: the grants of the 18 loads together stay within the available watts, and no
circuit's output stands above the cap that its grants give, or above 0 while the circuit is out of use or FAULT_SHORT. So
are the filter's two: its posted asks are those of its state, and a gate is open only in LOCKED or while a trial is GATING
(R107, R109, R114, R117, R152, R159, R161, R166, R170). -/
def Obligations.GrantsAndLampsBounded : Prop :=
  (∀ s t : State, s.power.wattsBounded → step s = .next t → t.power.wattsBounded) ∧
  (∀ s t : State, s.lampsBounded → step s = .next t → t.lampsBounded) ∧
  (∀ s t : State, s.filterPosted → step s = .next t → t.filterPosted) ∧
  (∀ s t : State, s.water.filter.gateInPhase → step s = .next t → t.water.filter.gateInPhase)

/-- Reset meets every invariant stated here. That reset is a power-on with both store copies blank and 0 V on LEVEL, so that
the factory settings are loaded and the top-up valve asks at once, is the model's choice (assumption log 1); the starting
values are those of R17, R35, R164, R180 and R189. -/
def Obligations.ResetMeetsInvariants : Prop :=
  State.reset.link.bounded ∧ State.reset.reports.bounded ∧ State.reset.field.tx.bounded ∧ State.reset.mapSound ∧
    State.reset.power.wattsBounded ∧ State.reset.lampsBounded ∧ State.reset.filterPosted ∧
    State.reset.water.filter.gateInPhase

/-- Only MODE_SETUP, MODE_RUN and a start (POWER_ON, RESTART) change the mode (R186, R187, R189, R193). -/
def Obligations.ModeChangesOnlyByModeCommands : Prop :=
  ∀ (c : Instr) (s t : State), (∀ b, c ≠ .modeSetup b) → (∀ b, c ≠ .modeRun b) → (∀ v, c ≠ .powerOn v) →
    (∀ b v, c ≠ .restart b v) → exec c s = .next t → t.mode = s.mode

/-- A refused request changes nothing: whichever request command runs, a REFUSED reply on the link after it that
was not there before comes with the garden and the store as they were (R185). -/
def Obligations.RefusedRequestChangesNothing : Prop :=
  ∀ (c : Instr) (s t : State) (tag : Option Byte) (r : Reason) (d : List Field),
    (formFor c).isSome = true ∨ (∃ k, c = .requestUnknownKind k) → exec c s = .next t →
    t.link.reply = some ⟨tag, .refused r, d⟩ → t.toGarden = s.toGarden ∧ t.store = s.store ∧ t.pending = s.pending

/-- The checks that come before the owner's own, in order: a body of the wrong length, the mode, the store.
Each answers its refusal with the request's TAG and changes nothing else (R185). -/
def Obligations.RequestChecksInOrder : Prop :=
  ∀ (c : Instr) (s : State) (f : RequestForm), formFor c = some f → s.serves f →
    (f.badLength = true → exec c s = .next (s.answer s.toGarden (.refused .badBody []))) ∧
    (f.badLength = false → f.access = .config → s.mode = .run →
      exec c s = .next (s.answer s.toGarden (.refused .wrongMode []))) ∧
    (f.badLength = false → f.access = .config → s.mode = .setup → s.store.writing.isSome = true →
      exec c s = .next (s.answer s.toGarden (.refused .busy []))) ∧
    (f.badLength = false → f.access = .runOnly → s.mode = .setup →
      exec c s = .next (s.answer s.toGarden (.refused .wrongMode [])))

/-- The queue and its request in service: a request command that is not the undecided request in service changes
nothing (the model's convention, assumption log 2); REQUEST_UNKNOWN_KIND answers UNKNOWN_KIND; REPLY_SENT takes the
answered request out and puts the next in service, and without an answered request changes nothing (R184, R185). -/
def Obligations.RequestInServiceFirst : Prop :=
  (∀ (c : Instr) (s : State) (f : RequestForm), formFor c = some f → ¬ s.serves f → exec c s = .next s) ∧
  (∀ (kind : Nat) (s : State) (q : QueuedRequest) (l : List QueuedRequest), kind < 0x10 ∨ 0x49 < kind →
    s.link.queue = q :: l → s.link.answered = false → q.kind.toNat = kind →
    exec (.requestUnknownKind kind) s = .next { s with link :=
      { s.link with answered := true, reply := some ⟨some q.tag, .refused .unknownKind, []⟩ } }) ∧
  (∀ (s : State) (q : QueuedRequest) (l : List QueuedRequest), s.link.queue = q :: l → s.link.answered = true →
    exec .replySent s = .next { s with link := { s.link with queue := l, answered := false } }) ∧
  (∀ s : State, s.link.answered = false → exec .replySent s = .next s)

/-- A host frame, written by R182 and sent byte by byte to a hunting receiver with no stop-bit error, is a good
request: GOOD is counted, the receiver hunts again, and the request stands at the tail of the queue, or is dropped and
counted QUEUE_FULL where four requests wait. Nothing else changes (R182, R183, R184). -/
def Obligations.HostFrameArrives : Prop :=
  ∀ (kind tag : Byte) (body bytes : List Byte) (last : Byte) (s : State), body.length ≤ 200 →
    s.link.rx.state = .hunting → hostFrame kind tag body = bytes ++ [last] →
    runCommands (bytes.map (fun b => .hostByteReceived b false) ++ [.hostFrameEnd last false]) s = .next
      { s with link := { s.link with
          rx := ⟨.hunting, 0, [], false⟩,
          queue := if s.link.queue.length < 4 then s.link.queue ++ [⟨kind, tag, body⟩] else s.link.queue,
          counters := { s.link.counters with
            good := if s.link.counters.good < 65535 then s.link.counters.good + 1 else s.link.counters.good,
            queueFull :=
              if s.link.queue.length < 4 ∨ ¬ s.link.counters.queueFull < 65535 then s.link.counters.queueFull
              else s.link.counters.queueFull + 1 } } }

/-- The receiver byte by byte: SYNC, a LEN up to 200 and the bytes that follow are taken, and the last CRC byte of a sound
frame offers its request to the queue. Dropped are bytes outside a frame, a LEN above 200, a frame that falls silent, and a
frame whose CRC or stop bits are bad; each counts its own counter and hunts again. Nothing else changes (R183, R184). -/
def Obligations.ReceiverTakesAndDropsBytes : Prop :=
  (∀ (s : State) (b : Byte) (e : Bool), s.link.rx.state = .hunting → b ≠ 0xC3 →
    exec (.hostByteReceived b e) s = .next s) ∧
  (∀ (s : State) (e : Bool), s.link.rx.state = .hunting → exec (.hostByteReceived 0xC3 e) s = .next
    { s with link := { s.link with rx := ⟨.length, 0, [], e⟩ } }) ∧
  (∀ (s : State) (b : Byte) (e : Bool), s.link.rx.state = .length → b.toNat ≤ 200 →
    exec (.hostByteReceived b e) s = .next
      { s with link := { s.link with rx := ⟨.gathering, b.toNat, [], s.link.rx.damaged || e⟩ } }) ∧
  (∀ (s : State) (b : Byte) (e : Bool), s.link.rx.state = .gathering →
    s.link.rx.taken.length + 1 < s.link.rx.len + 4 → exec (.hostByteReceived b e) s = .next
      { s with link := { s.link with rx :=
        { s.link.rx with taken := s.link.rx.taken ++ [b], damaged := s.link.rx.damaged || e } } }) ∧
  (∀ (s : State) (b kind tag : Byte) (body : List Byte), s.link.rx.state = .gathering → s.link.rx.damaged = false →
    body.length = s.link.rx.len → s.link.rx.taken ++ [b] = kind :: tag :: body ++
      crcBytes (crc16 (BitVec.ofNat 8 s.link.rx.len :: kind :: tag :: body)) → s.link.queue.length < 4 →
    exec (.hostFrameEnd b false) s = .next { s with link := { s.link with
      rx := ⟨.hunting, 0, [], false⟩, queue := s.link.queue ++ [⟨kind, tag, body⟩],
      counters := { s.link.counters with good :=
        if s.link.counters.good < 65535 then s.link.counters.good + 1 else s.link.counters.good } } }) ∧
  (∀ (s : State) (b : Byte) (e : Bool), s.link.rx.state = .length → 200 < b.toNat →
    exec (.hostBadLength b e) s = .next { s with link := { s.link with
      rx := ⟨.hunting, 0, [], false⟩,
      counters := { s.link.counters with badLength :=
        if s.link.counters.badLength < 65535 then s.link.counters.badLength + 1 else s.link.counters.badLength } } }) ∧
  (∀ s : State, s.link.rx.state = .hunting → exec .hostFrameTimeout s = .next s) ∧
  (∀ s : State, s.link.rx.state ≠ .hunting → exec .hostFrameTimeout s = .next { s with link := { s.link with
      rx := ⟨.hunting, 0, [], false⟩,
      counters := { s.link.counters with truncated :=
        if s.link.counters.truncated < 65535 then s.link.counters.truncated + 1 else s.link.counters.truncated } } }) ∧
  (∀ (s : State) (b : Byte) (e : Bool) (all : List Byte), s.link.rx.state = .gathering →
    all = s.link.rx.taken ++ [b] → all.length = s.link.rx.len + 4 →
    (s.link.rx.damaged = true ∨ e = true ∨ all.drop (s.link.rx.len + 2) ≠
      crcBytes (crc16 (BitVec.ofNat 8 s.link.rx.len :: all.take (s.link.rx.len + 2)))) →
    exec (.hostFrameEnd b e) s = .next { s with link := { s.link with
      rx := ⟨.hunting, 0, [], false⟩,
      counters := { s.link.counters with badCrc :=
        if s.link.counters.badCrc < 65535 then s.link.counters.badCrc + 1 else s.link.counters.badCrc } } })

/-- SETTINGS_STORE takes a snapshot of the configuration and begins a write of the next generation to the copy that
does not hold the store generation, which is not valid while it runs; the write ends 2 s later, and its end makes that copy
valid or leaves it invalid, with its report. The garden is otherwise untouched, and STORE_WRITE_END without a write or
before its end changes nothing (R188). That the end acts once the running time reaches it within the present second, and
moves up to it, is the model's choice (DESIGN CHOICE, assumption log 1). -/
def Obligations.SettingsStoreWrites : Prop :=
  (∀ s : State, s.takes (.settingsStore (.fields ())) → ∃ t, exec (.settingsStore (.fields ())) s = .next t ∧
    t.toGarden = s.toGarden ∧ t.pending = s.pending ∧
    t.link = s.link.answer (.accepted [u4 (nextGeneration s.store.generation)]) ∧
    (∀ c, s.store.newest = some (.one, c) → t.store = ⟨s.store.one, none,
      some ⟨nextGeneration c.generation, .two, s.snapshot, s.now⟩⟩) ∧
    (∀ c, s.store.newest = some (.two, c) → t.store = ⟨none, s.store.two,
      some ⟨nextGeneration c.generation, .one, s.snapshot, s.now⟩⟩) ∧
    (s.store.newest = none → t.store = ⟨none, none, some ⟨1, .one, s.snapshot, s.now⟩⟩)) ∧
  (∀ (s : State) (w : StoreWrite) (x : Nat), s.store.writing = some w → x = w.began + 2000 → x / 1000 ≤ s.time.secs →
    exec (.storeWriteEnd true) s = .next { s with
      time := s.time.reach x,
      reports := s.reports.add s.stamp (.settingsStored w.generation),
      store := match w.target with
        | .one => ⟨some ⟨w.generation, w.snapshot⟩, s.store.two, none⟩
        | .two => ⟨s.store.one, some ⟨w.generation, w.snapshot⟩, none⟩ }) ∧
  (∀ (s : State) (w : StoreWrite) (x : Nat), s.store.writing = some w → x = w.began + 2000 → x / 1000 ≤ s.time.secs →
    exec (.storeWriteEnd false) s = .next { s with
      time := s.time.reach x,
      reports := s.reports.add s.stamp (.settingsStoreFailed w.generation),
      store := match w.target with
        | .one => ⟨none, s.store.two, none⟩
        | .two => ⟨s.store.one, none, none⟩ }) ∧
  (∀ (s : State) (ok : Bool), (∀ w ∈ s.store.writing, s.time.secs < (w.began + 2000) / 1000) →
    exec (.storeWriteEnd ok) s = .next s)

/-- A start, at power-on or by RESTART: the configuration is the newest valid copy's, or the factory's; the mode and the
first report follow the checks of MODE_RUN; the link, the clock, the running time and the mask take their starting
values; both copies stand and no write is under way. Every unit's runtime items start as its own start rule lists them:
the cells and zones, Field Lines, the track records and stakes, the mowers, the planner, the water with its flags, valve
and filter, the show, the lights and the channels (R17, R35, R51, R74, R100, R126, R148, R164, R180). RESTART's ACCEPTED
reply goes out first, and the waiting requests are discarded (R188, R189, R193). That this reply then stands on the
fresh link is the model's choice (DEDUCED, assumption log 27), as are the cleared flags that the first level sample
finds (DEDUCED, assumption log 21), the absent kind of the latest failing check (assumption log 57), the positions of
the UNSET stakes, which R51 leaves open (assumption log 6), and the factory motion map (assumption log 68). -/
def Obligations.StartLoadsTheStore : Prop :=
  (∀ (s : State) (v : Nat), ∃ t, exec (.powerOn v) s = .next t ∧ t.pending = s.pending ∧ t.link = Link.start ∧
    t.store = { s.store with writing := none } ∧ t.time = ⟨0, 0⟩ ∧ t.clock = none ∧
    t.reports.mask = allReports ∧
    (s.store.newest = none → t.snapshot = Settings.factory ∧ t.mode = .setup ∧
      t.reports.queue.head? = some ⟨.running 0, .settingsLost⟩) ∧
    (∀ w c, s.store.newest = some (w, c) → t.snapshot = c.settings ∧ (t.mode = .run ↔ t.runItem = none) ∧
      t.reports.queue.head? = some ⟨.running 0, .started c.generation t.runItem⟩) ∧
    (∀ a, (t.ground.cell a).lastMown = none ∧ (t.ground.cell a).blocked = false ∧ (t.ground.cell a).claim = none) ∧
    t.ground.blockList = [] ∧ t.ground.zones = t.ground.zones.map (fun z => Zone.fresh z.cfg) ∧
    t.field = ⟨⟨FieldRx.idle, FieldRx.idle⟩, t.field.sources.map (Option.map (fun x => ⟨x.cfg, none, ⟨none, [], none⟩⟩)),
      FieldCounters.zero, FieldCounters.zero, 0, ⟨none, [], [], 0⟩⟩ ∧
    t.position = ⟨t.position.coeffs, ⟨Track.empty, Track.empty, Track.empty⟩,
      ⟨StakeRec.unset, StakeRec.unset, StakeRec.unset⟩, none⟩ ∧
    (∀ k, t.slot k = ⟨(t.slot k).cfg, ⟨.absent, none, false, false, false, 0, 1, none, none, none, none⟩, 0⟩) ∧
    t.planner = ⟨t.planner.cfg, [], Vector.replicate 48 none, ⟨none, none, none⟩, ⟨none, none, none⟩, ⟨[], [], []⟩,
      .dry, none, false, false, false, 60000⟩ ∧
    (∀ l, l = (if 3000000 ≤ v then 1500 else 1500 * v / 3000000) → t.water.level = l ∧
      t.water.starved = decide (l < t.water.cfg.levels.filterLow) ∧
      t.water.supplyLow = decide (l < t.water.cfg.levels.fountainLow) ∧
      t.water.demand = decide (l < t.water.cfg.levels.fillOn)) ∧
    t.water.capCount = 0 ∧ t.water.capFrom = 0 ∧ t.water.causes = ⟨t.water.supplyLow, false, false⟩ ∧
    (t.water.demand = false → t.water.topup = .closed) ∧
    (t.water.demand = true → t.water.cfg.capMinutes = 0 → t.water.topup = .capped) ∧
    (t.water.demand = true → t.water.cfg.capMinutes ≠ 0 → t.water.cfg.topupWatts ≠ 0 → t.water.topup =
      if (t.load topupLoad).askA ≤ (t.load topupLoad).grantA then .opened else .waitPower) ∧
    (t.water.starved = true → t.water.filter = { Filter.start with state := .starved }) ∧
    (t.water.starved = false → (t.water.filter.state = .searching ∨ t.water.filter.state = .locked ∨
        t.water.filter.state = .fault .noPower) ∧ t.water.filter.failing = 0 ∧ t.water.filter.failKind = none ∧
      t.water.filter.zeroFlow = 0 ∧ t.water.filter.lastGate = none ∧ t.water.filter.lastBackwashEnd = none) ∧
    t.shows = ShowUnit.start t.shows.cfg t.water.supplyLow ∧
    t.lights = ⟨t.lights.lateTime, t.lights.motionHold, t.lights.motionMap,
      t.lights.circuits.map (fun x => LampCircuit.start x.cfg), .day, none, none, false, false⟩ ∧
    t.power.ceff = t.power.cfg.capacity ∧ t.power.draw = 0 ∧ t.power.overdraw = 0 ∧ t.power.restore = 0 ∧
    (∀ c, (t.channel c).state ≠ .tripped ∧ (t.channel c).current = 0)) ∧
  (∀ (s : State) (v : Nat), s.takes (.restart (.fields ()) v) → ∃ t u, exec (.restart (.fields ()) v) s = .next t ∧
    exec (.powerOn v) s = .next u ∧ t = { u with link :=
      { u.link with reply := some ⟨s.link.queue.head?.map QueuedRequest.tag, .accepted, []⟩ } })

/-- MODE_RUN: in RUN no change; BUSY while the store is writing or a capture runs; INCONSISTENT with the first failing item;
otherwise RUN, and with the clock UNSET nothing else; with the clock set the due queue is built and a dispatch pass made on
it, and nothing else changes (R77, R78, R80, R187). -/
def Obligations.ModeRunEntersRun : Prop :=
  ∀ s : State, s.takes (.modeRun (.fields ())) →
    (s.mode = .run → exec (.modeRun (.fields ())) s = .next (s.answer s.toGarden (.accepted [u1 2]))) ∧
    (s.mode = .setup → s.store.writing.isSome = true ∨ s.position.capture.isSome = true →
      exec (.modeRun (.fields ())) s = .next (s.answer s.toGarden (.refused .busy []))) ∧
    (∀ item, s.mode = .setup → s.store.writing = none → s.position.capture = none → s.runItem = some item →
      exec (.modeRun (.fields ())) s = .next (s.answer s.toGarden (.refused .inconsistent item.fields))) ∧
    (s.mode = .setup → s.store.writing = none → s.position.capture = none → s.runItem = none →
      ∃ t, exec (.modeRun (.fields ())) s = .next t ∧ s.replied t (.accepted [u1 2]) ∧ t.mode = .run ∧
        (s.clock = none → t.toGarden = { s.toGarden with mode := .run }) ∧
        Garden.onlyMowers { s.toGarden with mode := .run } t.toGarden ∧
        (s.clock.isSome = true → Garden.passes (Garden.buildQueue { s.toGarden with mode := .run }) t.toGarden ∧
          (s.mayMow = false ∨ (∀ k, s.ready k = false) → t.planner = { s.planner with due := t.planner.due } ∧
            ∀ e, e ∈ t.planner.due ↔ s.ground.eligible e.zone = true ∧ e.due = s.dueDay e.zone)))

/-- MODE_SETUP: in SETUP no change; in RUN the mode is SETUP, every working mower is HOMEBOUND (SETUP) without a lane or
a claim, the show is reset, and the settings and records of the other blocks stand: GM's cells but for the claims, its zones
but for their assigned mowers and marks, its block list, LU but for escorts and SHOW requests, and the rest (R186, R141,
R71). -/
def Obligations.ModeSetupRecallsAndResets : Prop :=
  ∀ s : State, s.takes (.modeSetup (.fields ())) →
    (s.mode = .setup → exec (.modeSetup (.fields ())) s = .next (s.answer s.toGarden (.accepted [u1 1]))) ∧
    (s.mode = .run → ∃ t, exec (.modeSetup (.fields ())) s = .next t ∧ s.replied t (.accepted [u1 1]) ∧
      t.mode = .setup ∧ t.shows.engine = .idle ∧ t.shows.steps = [] ∧ t.shows.head = 0 ∧ t.shows.scene = none ∧
      t.shows.stack = [] ∧ t.shows.ctx = ShowContext.start ∧
      (∀ k, (s.mower k).state.working = true → (t.mower k).state = .homebound .setup ∧ t.lane k = none ∧
        t.ground.noClaims k) ∧
      (∀ k, (s.mower k).state.working = false → (t.slot k).calm = (s.slot k).calm) ∧
      t.time = s.time ∧ t.clock = s.clock ∧ t.water.calm = s.water.calm ∧ t.power.calm = s.power.calm ∧
      (∀ z, (t.ground.zone z).cfg = (s.ground.zone z).cfg ∧ (t.ground.zone z).roundStart = (s.ground.zone z).roundStart) ∧
      t.ground.blockList = s.ground.blockList ∧
      (s.ground.grid.wf = true → ∀ a, t.ground.cell a = { s.ground.cell a with claim := (t.ground.cell a).claim } ∧
        ((t.ground.cell a).claim = (s.ground.cell a).claim ∨ (t.ground.cell a).claim = none)) ∧
      { t.lights with circuits := s.lights.circuits } = s.lights ∧
      (∀ c, (t.lamp c).calm =
        { s.lamp c with escorts := (t.lamp c).escorts, shows := (t.lamp c).shows }.calm) ∧
      (∀ o ∈ s.shows.ctx.owned, (t.lamp o.circuit).shows = none) ∧
      (∀ c, (∀ o ∈ s.shows.ctx.owned, o.circuit ≠ c) → (t.lamp c).shows = (s.lamp c).shows) ∧
      t.field.steady = s.field.steady ∧ t.position.steady = s.position.steady ∧ t.planner.steady = s.planner.steady)

/-- TIME_SET: the clock takes the day and the clamped second, the running time does not move, a different day on a set clock
ends the cap period, quiet hours and every SCHEDULE request are judged from the new time. In RUN, the first TIME_SET builds
the due queue and makes a dispatch pass; a day change makes a pass, after an earlier day pulls the round-starts back and
builds the queue; a quiet start sends every working mower HOMEBOUND (QUIET) (R190, R78, R80, R97, R153). The order of these
effects (assumption log 37), the circle on which a day is earlier (DEDUCED, assumption log 28) and the SCHEDULE of a circuit
out of use (assumption log 61) are the model's choices. -/
def Obligations.TimeSetSetsTheClock : Prop :=
  ∀ (s : State) (q : TimeSet), s.takes (.timeSet (.fields q)) → ∃ t, exec (.timeSet (.fields q)) s = .next t ∧
    s.replied t (.accepted [u2 q.day, u3 (min 86399 q.second)]) ∧ t.clock = some ⟨q.day, min 86399 q.second⟩ ∧
    t.time = s.time ∧ t.mode = s.mode ∧ t.planner.quiet = quietAt s.planner.cfg (min 86399 q.second) ∧
    (∀ c, s.clock = some c → c.day ≠ q.day → t.water.capCount = 0) ∧
    (∀ c, s.clock = some c → c.day = q.day → t.water.capCount = s.water.capCount) ∧
    (s.clock = none → t.water.capCount = s.water.capCount) ∧
    (∀ c, (t.lamp c).schedule = (t.lamp c).cfg.scheduled s.lights.dusk (lateAt s.lights.lateTime (min 86399 q.second))) ∧
    t.lights.dusk = s.lights.dusk ∧ t.water.cfg = s.water.cfg ∧ t.shows.calm = s.shows.calm ∧
    t.power.calm = s.power.calm ∧ t.field.steady = s.field.steady ∧ t.position.steady = s.position.steady ∧
    t.planner.steady = { s.planner.steady with quiet := t.planner.quiet } ∧
    (s.planner.quiet = false → t.planner.quiet = true → ∀ k, (s.mower k).state.working = true →
      (t.mower k).state = .homebound .quiet) ∧
    (∀ g : Garden, g = { s.toGarden with clock := some ⟨q.day, min 86399 q.second⟩ } →
      (s.clock = none → s.mode = .run → t.planner.quiet = true → s.planner.quiet = false →
        t.planner.due = g.buildQueue.planner.due) ∧
      (s.planner.quiet = t.planner.quiet →
        (∀ h, h = g.buildQueue.dispatchPass → s.clock = none → s.mode = .run →
          g.buildQueue.passes h ∧ h.onlyLights t.toGarden) ∧
        (s.clock = none → s.mode = .setup → g.onlyLights t.toGarden) ∧
        (∀ c, s.clock = some c → c.day = q.day → g.onlyLights t.toGarden) ∧
        (∀ c u v h, s.clock = some c → c.day ≠ q.day →
          u = (if dayDistance q.day c.day < 0 then { g with ground := { g.ground with zones := g.ground.zones.map (fun z =>
            { z with roundStart := z.roundStart.map (fun r => if 0 < dayDistance r q.day then q.day else r) }) } } else g) →
          v = (if dayDistance q.day c.day < 0 ∧ s.mode = .run then u.buildQueue else u).on (fun b => b.endCapPeriod.settle) →
          h = v.dispatchPass → v.passes h ∧ h.onlyLights t.toGarden)))

/-- CLOCK_SECOND: the running second count and, once set, the clock pass on by a second; a second in OPEN counts on the cap;
a new day ends the cap period and makes a dispatch pass. Quiet hours are judged from the new time: a quiet start sends every
working mower HOMEBOUND (QUIET), a quiet end makes a dispatch pass. SCHEDULE is formed afresh where the clock enters or
leaves the late window. With the clock UNSET only the two counts move (R10, R80, R97, R105, R153, R190). That the next
second begins at millisecond 0 (assumption log 1), that the cap's count and its being reached are two commands (DEDUCED,
assumption log 24) and that a second counts by the valve's state at its end (assumption log 54) is the model's choice, as
are the order of these effects (assumption log 37) and the SCHEDULE of a circuit out of use (assumption log 61). -/
def Obligations.ClockSecondPasses : Prop :=
  (∀ s : State, s.clock = none → exec .clockSecond s = .next { s with
    time := ⟨s.time.secs + 1, 0⟩,
    water := if s.water.topup = .opened then { s.water with capCount := s.water.capCount + 1 } else s.water }) ∧
  (∀ (s : State) (c : GardenClock), s.clock = some c → ∃ t, exec .clockSecond s = .next t ∧ s.sameHost t ∧
    t.time = ⟨s.time.secs + 1, 0⟩ ∧ t.mode = s.mode ∧
    t.clock = some (if c.second < 86399 then ⟨c.day, c.second + 1⟩ else ⟨(c.day + 1) % 65536, 0⟩) ∧
    (c.second < 86399 → s.water.topup = .opened → t.water.capCount = s.water.capCount + 1) ∧
    (c.second < 86399 → s.water.topup ≠ .opened → t.water.capCount = s.water.capCount) ∧
    (c.second = 86399 → t.water.capCount = 0) ∧
    (∀ (n late : Nat → Bool) (second : Nat) (g : Garden), second = (if c.second < 86399 then c.second + 1 else 0) →
      (∀ x, n x = quietAt s.planner.cfg x) → (∀ x, late x = lateAt s.lights.lateTime x) →
      g = { s.toGarden with time := t.time, clock := t.clock, water := { s.water with capCount := t.water.capCount } } →
      t.planner.quiet = n second ∧
      (∀ x, (t.lamp x).schedule = if late second = late c.second then (s.lamp x).schedule
        else (s.lamp x).cfg.scheduled s.lights.dusk (late second)) ∧
      (s.planner.quiet = false → n second = true → ∀ k, (s.mower k).state.working = true →
        (t.mower k).state = .homebound .quiet) ∧
      (c.second < 86399 → n second = s.planner.quiet → g.onlyLights t.toGarden) ∧
      (∀ u h, u = { g with planner := { s.planner with quiet := false } } → h = u.dispatchPass → c.second < 86399 →
        n second = false → s.planner.quiet = true → u.passes h ∧ h.onlyLights t.toGarden) ∧
      (∀ u h, u = { g with water := s.water }.on (fun b => b.endCapPeriod.settle) → h = u.dispatchPass →
        c.second = 86399 → s.water.topup ≠ .opened → n second = s.planner.quiet →
        u.passes h ∧ h.onlyLights t.toGarden)) ∧
    t.water.cfg = s.water.cfg ∧ t.shows.calm = s.shows.calm ∧ t.power.calm = s.power.calm ∧
    t.field.steady = s.field.steady ∧ t.position.steady = s.position.steady ∧
    t.planner.steady = { s.planner.steady with quiet := t.planner.quiet })

/-- REPORTS_FETCH removes the oldest reports, up to 8 of them, reads the lost count and sets it to 0; its reply carries
their number, the count as read and the reports in order. REPORT_MASK_SET takes the bits of the 23 kinds, acts on reports
posted from then on and leaves the queued ones; a report that finds 32 queued is dropped and counted. Nothing else changes
(R192). -/
def Obligations.ReportsFetchedAndMasked : Prop :=
  (∀ s : State, s.takes (.reportsFetch (.fields ())) → exec (.reportsFetch (.fields ())) s = .next
    (s.answer { s.toGarden with reports := ⟨s.reports.queue.drop 8, 0, s.reports.mask⟩ }
      (.accepted ([u1 (min 8 s.reports.queue.length), u1 s.reports.lost] ++ (s.reports.queue.take 8).map Report.field)))) ∧
  (∀ (s : State) (m : Word32), s.takes (.reportMaskSet (.fields m)) → exec (.reportMaskSet (.fields m)) s = .next
    (s.answer { s.toGarden with reports := ⟨s.reports.queue, s.reports.lost, m &&& 0x00FFFFFE⟩ }
      (.accepted [unsignedField 4 (m &&& 0x00FFFFFE).toNat]))) ∧
  (∀ (q : Reports) (w : Stamp) (r : ReportBody), q.mask.getLsbD r.code = false → q.add w r = q) ∧
  (∀ (q : Reports) (w : Stamp) (r : ReportBody), q.mask.getLsbD r.code = true →
    (q.queue.length < 32 → q.add w r = ⟨q.queue ++ [⟨w, r⟩], q.lost, q.mask⟩) ∧
    (32 ≤ q.queue.length → q.add w r = ⟨q.queue, if q.lost < 255 then q.lost + 1 else q.lost, q.mask⟩))

/-- The queries change nothing but the reply: each answers ACCEPTED with its items, and a paged query with the page that
it names, where there is such a page (R185 and each query's own rule). The layout of the items where the spec leaves it
open is the model's choice (assumption logs 7, 8, 10, 18, 31, 33, 44, 45, 49, 59, 63, 66, 72, 74 and 87). -/
def Obligations.QueriesOnlyTell : Prop :=
  (∀ (s : State) (p : Nat) (f : List Field), s.takes (.statusGet (.fields p)) → pageOf s.statusFields p = some f →
    exec (.statusGet (.fields p)) s = .next (s.answer s.toGarden (.accepted f))) ∧
  (∀ (s : State) (q : PagedGet) (z : ZoneId) (f : List Field), s.takes (.zoneGet (.fields q)) → q.number = z.val + 1 →
    pageOf (s.zoneFields z) q.page = some f →
    exec (.zoneGet (.fields q)) s = .next (s.answer s.toGarden (.accepted f))) ∧
  (∀ (s : State) (q : CellsGet) (f : List Field), s.takes (.cellsGet (.fields q)) → q.row ≤ 63 → q.firstCol ≤ q.lastCol →
    q.lastCol ≤ 95 → pageOf (s.ground.spanFields q) q.page = some f →
    exec (.cellsGet (.fields q)) s = .next (s.answer s.toGarden (.accepted f))) ∧
  (∀ (s : State) (i : SourceId) (x : Source), s.takes (.sourceGet (.fields (i.val + 1))) →
    tget s.field.sources i = some x →
    exec (.sourceGet (.fields (i.val + 1))) s = .next (s.answer s.toGarden (.accepted (x.fields s.time.secs)))) ∧
  (∀ s : State, s.takes (.calibrationGet (.fields ())) →
    exec (.calibrationGet (.fields ())) s = .next (s.answer s.toGarden (.accepted s.calibrationFields))) ∧
  (∀ (s : State) (q : PagedGet) (k : Slot) (f : List Field), s.takes (.mowerGet (.fields q)) → q.number = slotNo k →
    pageOf (s.mowerFields k) q.page = some f →
    exec (.mowerGet (.fields q)) s = .next (s.answer s.toGarden (.accepted f))) ∧
  (∀ (s : State) (p : Nat) (f : List Field), s.takes (.waterGet (.fields p)) → pageOf s.waterFields p = some f →
    exec (.waterGet (.fields p)) s = .next (s.answer s.toGarden (.accepted f))) ∧
  (∀ (s : State) (p : Nat) (f : List Field), s.takes (.showGet (.fields p)) → pageOf s.showFields p = some f →
    exec (.showGet (.fields p)) s = .next (s.answer s.toGarden (.accepted f))) ∧
  (∀ (s : State) (q : PagedGet) (c : Circuit) (f : List Field), s.takes (.lightGet (.fields q)) →
    q.number = c.val + 1 → pageOf (s.lightFields c) q.page = some f →
    exec (.lightGet (.fields q)) s = .next (s.answer s.toGarden (.accepted f))) ∧
  (∀ (s : State) (p : Nat) (f : List Field), s.takes (.powerGet (.fields p)) → pageOf s.powerFields p = some f →
    exec (.powerGet (.fields p)) s = .next (s.answer s.toGarden (.accepted f))) ∧
  (∀ (s : State) (c : ChannelId), s.takes (.channelGet (.fields (c.val + 1))) →
    exec (.channelGet (.fields (c.val + 1))) s = .next (s.answer s.toGarden (.accepted (s.channelFields c))))

/-- UNIT_RESTART of FIELD, SHOW and LIGHTS: receivers, windows and transmit queue empty, a capture failed; the show as
SHOW_RESET leaves it; the dusk state DAY, every circuit's requests, holds and outputs gone, with FAULT_SHORT (TRIP) only
where its channel is tripped. Configuration, mode and clock stand (R36, R48, R149, R165). That a dusk silence is counted in
whole running seconds and that a LIGHTS restart takes the onset of one that holds is the model's choice (DEDUCED, assumption
log 26). -/
def Obligations.UnitRestartsOfFieldShowLights : Prop :=
  (∀ s : State, s.takes (.unitRestartField (.fields .thisUnit)) → ∃ t,
    exec (.unitRestartField (.fields .thisUnit)) s = .next t ∧ s.replied t (.accepted [u1 1]) ∧
    t.field = { s.field with
      rx := ⟨FieldRx.idle, FieldRx.idle⟩,
      sources := s.field.sources.map (Option.map (fun x => { x with window := Window.empty })),
      tx := ⟨none, [], [], s.field.tx.linkSeq⟩ } ∧
    t.position = { s.position with capture := none } ∧ t.planner = s.planner ∧ t.mode = s.mode ∧
    (s.position.capture = none → t.toBench = s.toBench) ∧
    (∀ c, s.position.capture = some c → t.toBench = s.toBench.post (.calibrationFailed c.stake .fieldRestart))) ∧
  (∀ s : State, s.takes (.unitRestartShow (.fields .thisUnit)) → ∃ t,
    exec (.unitRestartShow (.fields .thisUnit)) s = .next t ∧ s.replied t (.accepted [u1 5]) ∧
    s.toGarden.sameBeyondBench t.toGarden ∧ t.shows.calm = { s.shows.calm with
      engine := .idle, head := 0, steps := [], scene := none, stack := [], ctx := ShowContext.start } ∧
    t.shows.held = ⟨false, false, false, false⟩ ∧
    t.toBench.calm = { s.toBench with shows := t.shows, lights := t.lights }.calm) ∧
  (∀ s : State, s.takes (.unitRestartLights (.fields .thisUnit)) → ∃ t,
    exec (.unitRestartLights (.fields .thisUnit)) s = .next t ∧ s.replied t (.accepted [u1 6]) ∧
    s.toGarden.sameBeyondBench t.toGarden ∧ t.lights.dusk = .day ∧ t.lights.pendingDusk = none ∧ t.lights.lux = none ∧
    t.lights.silent = s.silentFor .dusk 600 ∧ t.lights.onset = s.silentFor .dusk 600 ∧ t.lights.lateTime = s.lights.lateTime ∧
    t.lights.motionHold = s.lights.motionHold ∧ t.lights.motionMap = s.lights.motionMap ∧
    (∀ c, t.lamp c = { LampCircuit.start (s.lamp c).cfg with
      state := if s.power.fnTripped (.light c) then .faultShort .trip else .off }) ∧
    t.toBench.calm = { s.toBench with lights := t.lights }.calm)

/-- UNIT_RESTART of FLEET, PLANNER and WATER. FLEET: every bound slot is ABSENT as after power-on, its lane and claims gone,
STOP and RETURN handed to the transmit queue, slot by slot; an unbound slot stands. PLANNER: every working mower is sent
home, no lane, yield, set-aside cell, assignment or claim is left, the due queue is built afresh and a dispatch pass made on
it. WATER: level and flags from the pin, cap count 0, settings stand (R32, R33, R64, R75, R77, R78, R80, R101, R127); that
each flag is judged with a cleared flag as its state before is the model's choice (DEDUCED, assumption log 21). -/
def Obligations.UnitRestartsOfFleetPlannerWater : Prop :=
  (∀ s : State, s.takes (.unitRestartFleet (.fields .thisUnit)) → ∃ t,
    exec (.unitRestartFleet (.fields .thisUnit)) s = .next t ∧ s.replied t (.accepted [u1 2]) ∧ t.mode = s.mode ∧
    t.time = s.time ∧ t.clock = s.clock ∧
    (∀ k, (s.slot k).cfg.source.isSome = true → t.mower k = { MowerCtx.start with
        nextOrder := nextNumber (nextNumber (s.mower k).nextOrder), faultCode := (s.mower k).faultCode,
        outstanding := some ⟨nextNumber (s.mower k).nextOrder, .returnHome, 0⟩ } ∧
      t.lane k = none ∧ t.planner.yields.get k = none ∧ t.planner.setAside.get k = [] ∧ t.ground.noClaims k) ∧
    (∀ k, (s.slot k).cfg.source = none → (t.slot k).calm = (s.slot k).calm ∧ t.lane k = s.lane k) ∧
    t.field = allSlots.foldl (fun f k => match (s.slot k).cfg.source with
      | none => f
      | some i => (f.arrive ⟨i, .stop, (s.mower k).nextOrder⟩ s.now).arrive
          ⟨i, .returnHome, nextNumber (s.mower k).nextOrder⟩ s.now) s.field ∧
    t.planner.steady = s.planner.steady ∧ t.field.steady = s.field.steady ∧ t.water.calm = s.water.calm ∧
    t.shows.calm = s.shows.calm ∧ t.power.calm = s.power.calm) ∧
  (∀ s : State, s.takes (.unitRestartPlanner (.fields .thisUnit)) → ∃ t,
    exec (.unitRestartPlanner (.fields .thisUnit)) s = .next t ∧ s.replied t (.accepted [u1 3]) ∧
    s.toGarden.onlyMowers t.toGarden ∧
    (∀ k, (s.mower k).state.working = true → (t.mower k).state = .homebound .recall) ∧
    (¬ (s.mode = .run ∧ s.mayMow = true) → ∀ k, t.lane k = none ∧ t.planner.yields.get k = none ∧
      t.planner.setAside.get k = [] ∧ t.ground.noClaims k ∧ ∀ z, (t.ground.zone z).assigned = none) ∧
    (¬ (s.mode = .run ∧ s.mayMow = true) → ∀ e, e ∈ t.planner.due ↔
      s.clock.isSome = true ∧ s.ground.eligible e.zone = true ∧ e.due = s.dueDay e.zone) ∧
    (∀ g : Garden, g = (s.toGarden.sendAllHome .recall).clearPlans → s.toGarden.onlyMowers g ∧
      g.planner.due = s.planner.due ∧ g.planner.lastRound = s.planner.lastRound ∧
      (∀ k, g.freed k ∧ ((s.mower k).state.working = true → (g.mower k).state = .homebound .recall) ∧
        ((s.mower k).state.working = false → (g.slot k).calm = (s.slot k).calm)) ∧
      (∀ z, (g.ground.zone z).assigned = none) ∧ g.buildQueue.passes t.toGarden)) ∧
  (∀ (s : State) (v : Nat), s.takes (.unitRestartWater (.fields .thisUnit) v) → ∃ t,
    exec (.unitRestartWater (.fields .thisUnit) v) s = .next t ∧ s.replied t (.accepted [u1 4]) ∧
    s.toGarden.sameBeyondBench t.toGarden ∧
    t.toBench.calm = { s.toBench with water :=
      { cfg := s.water.cfg, level := readPin 1500 v,
        starved := decide (readPin 1500 v < s.water.cfg.levels.filterLow),
        supplyLow := decide (readPin 1500 v < s.water.cfg.levels.fountainLow),
        demand := decide (readPin 1500 v < s.water.cfg.levels.fillOn),
        topup := .closed, capCount := 0, capFrom := s.time.secs, filter := Filter.start,
        causes := ⟨false, false, false⟩ } }.calm ∧
    (s.power.fnTripped .filterPump = true → t.water.filter.state = .fault .channelTrip) ∧
    (s.power.fnTripped .filterPump = false → readPin 1500 v < s.water.cfg.levels.filterLow →
      t.water.filter.state = .starved) ∧
    (s.power.fnTripped .topupValve = true → t.water.topup = .tripped))

/-! ### Garden Map -/

/-- MAP_FILL: refused for a rectangle out of order or out of range; otherwise exactly the cells of the rectangle whose
zone differs take the named zone, unblocked and off the block list, and the reply counts them; their claims are gone,
and no cell gains one. Where none of them is claimed, nothing else changes but the stamps and claims of those cells and
the due-queue entries of emptied zones; where one is, each MOWING or PAUSED mower that held one takes the revocation
notice: PAUSED (WET), and with a lane off it to another lane or home (R13, R15, R68, R89, R93). That a body both out of
order and out of range is refused BAD_BODY is the model's choice (assumption log 64). -/
def Obligations.MapFillFillsTheRectangle : Prop :=
  ∀ (s : State) (q : MapFill), s.takes (.mapFill (.fields q)) →
    (q.lastCol < q.firstCol ∨ q.lastRow < q.firstRow →
      exec (.mapFill (.fields q)) s = .next (s.answer s.toGarden (.refused .badBody []))) ∧
    (q.firstCol ≤ q.lastCol → q.firstRow ≤ q.lastRow → 95 < q.lastCol ∨ 63 < q.lastRow ∨ 48 < q.zone →
      exec (.mapFill (.fields q)) s = .next (s.answer s.toGarden (.refused .noSuch []))) ∧
    (∀ changed : CellAddr → Prop, (∀ a, changed a ↔ (q.firstCol ≤ a.col.val ∧ a.col.val ≤ q.lastCol ∧
        q.firstRow ≤ a.row.val ∧ a.row.val ≤ q.lastRow ∧ (s.ground.cell a).zone ≠ index? 48 q.zone)) →
      q.firstCol ≤ q.lastCol → q.firstRow ≤ q.lastRow → q.lastCol ≤ 95 → q.lastRow ≤ 63 → q.zone ≤ 48 →
      s.ground.grid.wf = true → ∃ t, exec (.mapFill (.fields q)) s = .next t ∧
        s.replied t (.accepted [u2 ((rectangle q).filter (fun a => (s.ground.cell a).zone ≠ index? 48 q.zone)).length]) ∧
        (∀ a, changed a → (t.ground.cell a).zone = index? 48 q.zone ∧ (t.ground.cell a).blocked = false) ∧
        (∀ a, ¬ changed a → (t.ground.cell a).zone = (s.ground.cell a).zone ∧
          (t.ground.cell a).blocked = (s.ground.cell a).blocked) ∧
        (∀ e, e ∈ t.ground.blockList ↔ e ∈ s.ground.blockList ∧ ¬ changed e.cell) ∧
        (∀ a, changed a → (t.ground.cell a).claim = none) ∧
        (∀ a j, (t.ground.cell a).claim = some j → (s.ground.cell a).claim = some j) ∧
        s.toGarden.notifies t.toGarden changed ∧
        t.ground.zones.map Zone.cfg = s.ground.zones.map Zone.cfg ∧ t.mode = s.mode ∧ t.time = s.time ∧
        t.field.steady = s.field.steady ∧ t.position.steady = s.position.steady ∧
        t.planner.steady = s.planner.steady ∧ t.water.calm = s.water.calm ∧ t.shows.calm = s.shows.calm ∧
        t.power.calm = s.power.calm ∧
        ((∀ a, changed a → (s.ground.cell a).claim = none) →
          (∀ a, changed a → t.ground.cell a = ⟨index? 48 q.zone, none, false, none⟩) ∧
          (∀ a, ¬ changed a → t.ground.cell a = s.ground.cell a) ∧ t.ground.zones = s.ground.zones ∧
          t.toGarden = { s.toGarden with
            ground := t.ground,
            planner := { s.planner with due := s.planner.due.filter (fun e => t.ground.inUse e.zone) } }))

/-- ZONE_SET: the configured fields are the request's, clamped, with withdrawn kept; a change of kind takes the zone's
round-start, assigned mower, last round day and due-queue entry and its cells' stamps. By day or dusk nothing else changes;
by night the escorts follow. An out-of-range number, an unknown kind or a second discharge zone is refused (R2, R16, R156);
the reason for an unknown kind and the order of these checks are the model's choice (DEDUCED, assumption log 17), as is the
layout of the reply (DEDUCED, assumption log 18). -/
def Obligations.ZoneSetWritesTheRecord : Prop :=
  (∀ (s : State) (q : ZoneSet) (z : ZoneId) (kind : ZoneKind) (circuit : Option Circuit) (splash : Option Nozzle) (r : Zone),
    s.takes (.zoneSet (.fields q)) → q.zone = z.val + 1 → q.kind = .named kind → q.circuit = circuit.map (·.val + 1) →
    q.splash = splash.map nozzleNo → (q.discharge = true → ∀ y, y ≠ z → (s.ground.zone y).cfg.discharge = false) →
    r = { s.ground.zone z with
      cfg := ⟨kind, max 1 (min 14 q.interval), max 20 (min 80 q.cutHeight), circuit, splash, q.discharge,
        min 1000 q.escort, (s.ground.zone z).cfg.withdrawn⟩,
      roundStart := if kind = (s.ground.zone z).cfg.kind then (s.ground.zone z).roundStart else none,
      assigned := if kind = (s.ground.zone z).cfg.kind then (s.ground.zone z).assigned else none } →
    ∃ t, exec (.zoneSet (.fields q)) s = .next t ∧ s.replied t (.accepted (t.zoneRecord z)) ∧
      t.ground.zones.map Zone.calm = (tset s.ground.zones z r).map Zone.calm ∧
      t.ground.blockList = s.ground.blockList ∧
      (kind = (s.ground.zone z).cfg.kind → t.ground.grid = s.ground.grid ∧ t.planner = s.planner) ∧
      (kind ≠ (s.ground.zone z).cfg.kind →
        t.planner = { s.planner with lastRound := tset s.planner.lastRound z none,
                                     due := s.planner.due.filter (fun e => e.zone ≠ z) } ∧
        (s.ground.grid.wf = true → ∀ a, t.ground.cell a = if (s.ground.cell a).zone = some z then
          { s.ground.cell a with lastMown := none } else s.ground.cell a)) ∧
      t.mode = s.mode ∧ t.field = s.field ∧ t.position = s.position ∧
      t.toBench.calm = { s.toBench with ground := t.ground, lights := t.lights }.calm ∧
      (s.lights.dusk ≠ .night → t.ground.zones = tset s.ground.zones z r ∧
        t.toBench = { s.toBench with ground := t.ground })) ∧
  (∀ (s : State) (q : ZoneSet), s.takes (.zoneSet (.fields q)) → q.zone = 0 ∨ 48 < q.zone →
    exec (.zoneSet (.fields q)) s = .next (s.answer s.toGarden (.refused .noSuch []))) ∧
  (∀ (s : State) (q : ZoneSet) (z : ZoneId) (k : Nat), s.takes (.zoneSet (.fields q)) → q.zone = z.val + 1 →
    q.kind = .unknown k → exec (.zoneSet (.fields q)) s = .next (s.answer s.toGarden (.refused .badBody []))) ∧
  (∀ (s : State) (q : ZoneSet) (z : ZoneId) (kind : ZoneKind), s.takes (.zoneSet (.fields q)) → q.zone = z.val + 1 →
    q.kind = .named kind →
    (∃ n, q.circuit = some n ∧ (n = 0 ∨ 12 < n)) ∨ (∃ n, q.splash = some n ∧ (n = 0 ∨ 4 < n)) →
    exec (.zoneSet (.fields q)) s = .next (s.answer s.toGarden (.refused .noSuch []))) ∧
  (∀ (s : State) (q : ZoneSet) (z y : ZoneId) (kind : ZoneKind) (circuit : Option Circuit) (splash : Option Nozzle),
    s.takes (.zoneSet (.fields q)) → q.zone = z.val + 1 → q.kind = .named kind → q.circuit = circuit.map (·.val + 1) →
    q.splash = splash.map nozzleNo → q.discharge = true → y ≠ z → (s.ground.zone y).cfg.discharge = true →
    exec (.zoneSet (.fields q)) s = .next (s.answer s.toGarden (.refused .inconsistent [])))

/-- ZONE_WITHDRAW and ZONE_RESTORE: a request that finds the field as it asks changes nothing; a withdrawal takes the zone's
due-queue entry and assignment and acts on every lane in it: an OUTBOUND mower is sent to another zone or home; a lane at
which the mower yields is cut behind its current cell and ends, with the yield record gone and the cell stamped, and the
mower is sent on or home; any other mower at work keeps its state and its lane up to the current cell. A restored zone
enters the queue where it is eligible and the clock is set. The reply carries the field (R5, R77, R89, R92). -/
def Obligations.ZonesLeaveAndJoinTheMowingView : Prop :=
  (∀ (s : State) (z : ZoneId), s.takes (.zoneWithdraw (.fields (z.val + 1))) →
    ((s.ground.zone z).cfg.withdrawn = true →
      exec (.zoneWithdraw (.fields (z.val + 1))) s = .next (s.answer s.toGarden (.accepted [u1 1]))) ∧
    ((s.ground.zone z).cfg.withdrawn = false → ∃ t, exec (.zoneWithdraw (.fields (z.val + 1))) s = .next t ∧
      s.replied t (.accepted [u1 1]) ∧ (t.ground.zone z).cfg.withdrawn = true ∧
      Garden.onlyMowers { s.toGarden with ground := s.ground.setWithdrawn z true } t.toGarden ∧
      (∀ e ∈ t.planner.due, e.zone ≠ z) ∧ (t.ground.zone z).assigned = none ∧
      (∀ k l, s.lane k = some l → l.zone = z →
        ((s.mower k).state = .outbound → ((t.mower k).state = .homebound .laneDoneNoWork ∧ t.freed k) ∨
          ((t.mower k).state = .outbound ∧ ∃ x, t.lane k = some x ∧ x.zone ≠ z)) ∧
        ((s.mower k).state = .paused .yield → t.planner.yields.get k = none ∧ t.ground.noClaims k ∧
          ((t.mower k).state = .homebound .laneDoneNoWork ∨
            ((t.mower k).state = .outbound ∧ ∃ x, t.lane k = some x ∧ x.zone ≠ z)) ∧
          (s.ground.grid.wf = true → ∀ a ∈ l.cells[l.current]?, (t.ground.cell a).lastMown = some s.today)) ∧
        ((s.mower k).state = .mowing ∨ (∃ c, (s.mower k).state = .paused c ∧ c ≠ .yield) →
          (t.mower k).state = (s.mower k).state ∧
          (t.lane k).map Lane.cells = some (l.cells.take (l.current + 1)))))) ∧
  (∀ (s : State) (z : ZoneId), s.takes (.zoneRestore (.fields (z.val + 1))) →
    ((s.ground.zone z).cfg.withdrawn = false →
      exec (.zoneRestore (.fields (z.val + 1))) s = .next (s.answer s.toGarden (.accepted [u1 0]))) ∧
    ((s.ground.zone z).cfg.withdrawn = true → ∃ t, exec (.zoneRestore (.fields (z.val + 1))) s = .next t ∧
      s.replied t (.accepted [u1 0]) ∧ (t.ground.zone z).cfg.withdrawn = false ∧
      t.toGarden = { s.toGarden with
        ground := s.ground.setWithdrawn z false, planner := { s.planner with due := t.planner.due } } ∧
      (s.clock = none → t.planner.due = s.planner.due) ∧
      (s.clock.isSome = true → t.ground.eligible z = true → ∃ e ∈ t.planner.due, e.zone = z))) ∧
  (∀ (s : State) (n : Nat), n = 0 ∨ 48 < n →
    (s.takes (.zoneWithdraw (.fields n)) →
      exec (.zoneWithdraw (.fields n)) s = .next (s.answer s.toGarden (.refused .noSuch []))) ∧
    (s.takes (.zoneRestore (.fields n)) →
      exec (.zoneRestore (.fields n)) s = .next (s.answer s.toGarden (.refused .noSuch []))))

/-- An obstacle is listed: a listed cell is re-timed, another joins, and where 64 are listed the first to expire leaves and
is unblocked; the list stays in order. BLOCK_LIST_EXPIRY takes the first entry off the list and unblocks its cell;
WET_MARK_EXPIRY takes a DRYING mark out of its zone's set. Nothing else changes (R6, R7, R10). That an expiry acts only once
the running time reaches it within the present second, and moves up to it, is the model's choice (assumption log 1). -/
def Obligations.GroundExpiries : Prop :=
  (∀ (m : MapUnit) (a : CellAddr) (x : Nat) (e : BlockEntry),
    (m.blockList.Pairwise (fun f h => f.expiry ≤ h.expiry) →
      (m.listBlock a x).blockList.Pairwise (fun f h => f.expiry ≤ h.expiry)) ∧
    (a ∈ m.blockList.map BlockEntry.cell → (m.listBlock a x).grid = m.grid ∧
      (e ∈ (m.listBlock a x).blockList ↔ e = ⟨a, x⟩ ∨ (e ∈ m.blockList ∧ e.cell ≠ a))) ∧
    (a ∉ m.blockList.map BlockEntry.cell → m.blockList.length < 64 →
      (e ∈ (m.listBlock a x).blockList ↔ e = ⟨a, x⟩ ∨ e ∈ m.blockList) ∧
      (m.grid.wf = true → ∀ b, (m.listBlock a x).cell b =
        if b = a then { m.cell a with blocked := true } else m.cell b)) ∧
    (∀ f l, a ∉ m.blockList.map BlockEntry.cell → 64 ≤ m.blockList.length → m.blockList = f :: l →
      (e ∈ (m.listBlock a x).blockList ↔ e = ⟨a, x⟩ ∨ e ∈ l) ∧
      (m.grid.wf = true → ∀ b, (m.listBlock a x).cell b =
        if b = a then { m.cell a with blocked := true }
        else if b = f.cell then { m.cell b with blocked := false } else m.cell b))) ∧
  (∀ (s : State) (e : BlockEntry) (l : List BlockEntry), s.ground.blockList = e :: l → e.expiry / 1000 ≤ s.time.secs → ∃ t,
    exec .blockListExpiry s = .next t ∧ t = { s with time := s.time.reach e.expiry, ground := t.ground } ∧
    t.ground.blockList = l ∧ t.ground.zones = s.ground.zones ∧
    (s.ground.grid.wf = true → ∀ a, t.ground.cell a =
      if a = e.cell then { s.ground.cell a with blocked := false } else s.ground.cell a)) ∧
  (∀ s : State, (∀ e ∈ s.ground.blockList.head?, s.time.secs < e.expiry / 1000) → exec .blockListExpiry s = .next s) ∧
  (∀ (s : State) (z : ZoneId) (k : Mark) (x : Nat), (s.ground.zone z).mark k = .drying x → x / 1000 ≤ s.time.secs →
    exec (.wetMarkExpiry z k) s = .next { s with
      time := s.time.reach x,
      ground := { s.ground with zones := tset s.ground.zones z ((s.ground.zone z).setMark k .absent) } }) ∧
  (∀ (s : State) (z : ZoneId) (k : Mark), (∀ x, (s.ground.zone z).mark k = .drying x → s.time.secs < x / 1000) →
    exec (.wetMarkExpiry z k) s = .next s)

/-- GM's decisions on claims: mowable as R4 lists it, the five cases of R8 in their order with their effect on the one
cell, and the two releases of R9. -/
def Obligations.ClaimsDecidedAndReleased : Prop :=
  ∀ (m : MapUnit) (k : Slot) (a : CellAddr),
    (m.mowable a = true ↔ ∃ z, (m.cell a).zone = some z ∧ (m.zone z).cfg.kind = .lawn ∧
      (m.zone z).cfg.withdrawn = false ∧ (m.cell a).blocked = false ∧ (m.zone z).wet = false) ∧
    ((m.cell a).claim = some k → m.claimAnswer k a = .granted) ∧
    (∀ j, (m.cell a).claim = some j → j ≠ k → m.claimAnswer k a = .yield) ∧
    (∀ z, (m.cell a).claim = none → (m.cell a).zone = some z → (m.zone z).wet = true → m.claimAnswer k a = .wet) ∧
    ((m.cell a).claim = none → (∀ z, (m.cell a).zone = some z → (m.zone z).wet = false) → m.mowable a = false →
      m.claimAnswer k a = .unmowable) ∧
    ((m.cell a).claim = none → m.mowable a = true → m.claimAnswer k a = .granted) ∧
    (m.claimAnswer k a ≠ .granted → m.claim k a = m) ∧
    (m.grid.wf = true → ∀ b,
      (m.claimAnswer k a = .granted → (m.claim k a).cell b =
        if b = a then { m.cell a with claim := some k } else m.cell b) ∧
      (m.release k a).cell b =
        (if b = a ∧ (m.cell a).claim = some k then { m.cell a with claim := none } else m.cell b) ∧
      (m.releaseAll k).cell b =
        (if (m.cell b).claim = some k then { m.cell b with claim := none } else m.cell b))

/-- The map stays sound over every step: the grid in its canonical form, no claim in a wet zone (so mowers and water stay
apart), the block list within 64 entries in order of expiry with no cell twice and the blocked flags with it (R1, R6, R8,
R11, R13). -/
def Obligations.MapStaysSound : Prop :=
  ∀ s t : State, s.mapSound → step s = .next t → t.mapSound

/-! ### Field Lines -/

/-- SOURCE_SET makes, changes or leaves the entry as R24 tables it and tells it, SOURCE_REMOVE takes it out with its
window; the wind falls back to calm air when the last WIND source goes, and a silence that no longer holds has ended;
COUNTERS_CAPTURE copies the live counters, clears them and tells them with the span. Nothing else changes. A kind is
silent while the part has a source of it and each heard one was heard longer ago than the limit (R23, R24, R25, R31,
R142). A number out of range is refused NO_SUCH, an unknown kind or binding BAD_BODY; the order of the two is the
model's choice (assumption log 55), as is the layout of the reply, the accepted set in the order of its acceptance
(assumption log 42) and the counters told as 22 plain fields (assumption log 65). When a silence ends, and that its
length is counted in running seconds, is the model's choice too (DEDUCED, assumption log 26). -/
def Obligations.SourcesAndCountersKept : Prop :=
  (∀ (s : State) (q : SourceSet) (i : SourceId) (kind : SourceKind) (binding : Binding) (x : Source),
    s.takes (.sourceSet (.fields q)) → q.source = i.val + 1 → q.kind = .named kind → q.binding = .named binding →
    x = (match tget s.field.sources i with
      | none => ⟨⟨kind, binding⟩, none, ⟨none, [], none⟩⟩
      | some e => if e.cfg = ⟨kind, binding⟩ then e else ⟨⟨kind, binding⟩, e.lastHeard, ⟨none, [], none⟩⟩) →
    ∃ t, exec (.sourceSet (.fields q)) s = .next t ∧ s.replied t (.accepted (x.entryFields i)) ∧
      t.field = { s.field with sources := tset s.field.sources i (some x) } ∧ t.mode = s.mode ∧
      t.position = s.position ∧
      t.planner = { s.planner with rainOnset := s.planner.rainOnset && t.silentFor .rain 1800 } ∧
      (s.field.hasKind .wind = false ∨ t.field.hasKind .wind = true → t.toBench = { s.toBench with
        shows := { s.shows with windSilent := s.shows.windSilent && t.silentFor .wind 60 },
        lights := { s.lights with onset := s.lights.onset && t.silentFor .dusk 600 } }) ∧
      (s.field.hasKind .wind = true → t.field.hasKind .wind = false → t.toBench.calm = { s.toBench with
        shows := { s.shows with wind := none, windSilent := false, windFactor := 1000 },
        lights := { s.lights with onset := s.lights.onset && t.silentFor .dusk 600 } }.calm)) ∧
  (∀ (s : State) (q : SourceSet), s.takes (.sourceSet (.fields q)) → q.source = 0 ∨ 40 < q.source →
    exec (.sourceSet (.fields q)) s = .next (s.answer s.toGarden (.refused .noSuch []))) ∧
  (∀ (s : State) (q : SourceSet) (i : SourceId), s.takes (.sourceSet (.fields q)) → q.source = i.val + 1 →
    (∃ n, q.kind = .unknown n) ∨ (∃ n, q.binding = .unknown n) →
    exec (.sourceSet (.fields q)) s = .next (s.answer s.toGarden (.refused .badBody []))) ∧
  (∀ (s : State) (i : SourceId) (x : Source), s.takes (.sourceRemove (.fields (i.val + 1))) →
    tget s.field.sources i = some x → ∃ t, exec (.sourceRemove (.fields (i.val + 1))) s = .next t ∧
      s.replied t (.accepted []) ∧ t.field = { s.field with sources := tset s.field.sources i none } ∧
      t.mode = s.mode ∧ t.position = s.position ∧
      t.planner = { s.planner with rainOnset := s.planner.rainOnset && t.silentFor .rain 1800 } ∧
      (s.field.hasKind .wind = false ∨ t.field.hasKind .wind = true → t.toBench = { s.toBench with
        shows := { s.shows with windSilent := s.shows.windSilent && t.silentFor .wind 60 },
        lights := { s.lights with onset := s.lights.onset && t.silentFor .dusk 600 } }) ∧
      (s.field.hasKind .wind = true → t.field.hasKind .wind = false → t.toBench.calm = { s.toBench with
        shows := { s.shows with wind := none, windSilent := false, windFactor := 1000 },
        lights := { s.lights with onset := s.lights.onset && t.silentFor .dusk 600 } }.calm)) ∧
  (∀ (s : State) (i : SourceId), s.takes (.sourceRemove (.fields (i.val + 1))) → tget s.field.sources i = none →
    exec (.sourceRemove (.fields (i.val + 1))) s = .next (s.answer s.toGarden (.refused .noSuch []))) ∧
  (∀ (g : Garden) (kind : SourceKind) (n : Nat), g.silentFor kind n = true ↔ n < g.time.secs ∧
    (∃ i, ∃ x ∈ tget g.field.sources i, x.cfg.kind = kind) ∧
    ∀ i, ∀ x ∈ tget g.field.sources i, x.cfg.kind = kind → ∀ h ∈ x.lastHeard, h + n < g.time.secs) ∧
  (∀ s : State, s.takes (.countersCapture (.fields ())) → exec (.countersCapture (.fields ())) s = .next
    (s.answer { s.toGarden with field :=
        { s.field with capture := s.field.live, live := FieldCounters.zero, captureFrom := s.time.secs } }
      (.accepted (s.field.live.fields ++ [u4 (s.time.secs - s.field.captureFrom)]))))

/-- FIELD_BYTE_RECEIVED: the first byte after a gap starts a frame, the first 31 bytes are kept, every byte is counted,
and a stop-bit error marks the frame damaged. FIELD_FRAME_END on a frame that is not GOOD: the first of the tests that
it fails gives its class, its line counts RECEIVED and that class, and the receiver is idle again. Nothing else changes,
the duplicate window included. The bytes of a frame pass the integrity test exactly where they are source, sequence,
kind with the fresh flag, payload length, payload and the CRC over these, with at most 22 payload bytes and at least the
kind's own; the payload is then read kind by kind, with the bytes beyond the kind's size unread (R18, R19, R20, R21,
R22, R26, R27, R30). -/
def Obligations.BytesGatheredAndBadFramesCounted : Prop :=
  (∀ (s : State) (l : Line) (b : Byte) (e : Bool),
    ((s.field.rx.get l).gathering = false → exec (.fieldByteReceived l b e) s = .next
      { s with field := { s.field with rx := s.field.rx.put l ⟨true, 1, [b], e⟩ } }) ∧
    ((s.field.rx.get l).gathering = true → exec (.fieldByteReceived l b e) s = .next
      { s with field := { s.field with rx := s.field.rx.put l ⟨true, (s.field.rx.get l).count + 1,
        if (s.field.rx.get l).kept.length < 31 then (s.field.rx.get l).kept ++ [b] else (s.field.rx.get l).kept,
        (s.field.rx.get l).damaged || e⟩ } })) ∧
  (∀ (s : State) (l : Line) (r : FieldRx) (after : FrameClass → State), r = s.field.rx.get l →
    (∀ cls, after cls = { s with field := ({ s.field with rx := s.field.rx.put l FieldRx.idle }).count l cls }) →
    (r.gathering = false → exec (.fieldFrameEnd l) s = .next s) ∧
    (r.gathering = true → r.count < 7 → exec (.fieldFrameEnd l) s = .next (after .runt)) ∧
    (r.gathering = true → 31 < r.count → exec (.fieldFrameEnd l) s = .next (after .oversize)) ∧
    (r.gathering = true → 7 ≤ r.count → r.count ≤ 31 → r.damaged = true ∨ parseFieldFrame r.kept = none →
      exec (.fieldFrameEnd l) s = .next (after .badCrc)) ∧
    (∀ fr, r.gathering = true → 7 ≤ r.count → r.count ≤ 31 → r.damaged = false → parseFieldFrame r.kept = some fr →
      (fr.source = 0 ∨ 40 < fr.source → exec (.fieldFrameEnd l) s = .next (after .unknownSource)) ∧
      (∀ i, fr.source = i.val + 1 →
        (tget s.field.sources i = none → exec (.fieldFrameEnd l) s = .next (after .unknownSource)) ∧
        (∀ e, tget s.field.sources i = some e →
          (senderOf fr.kind ≠ some e.cfg.kind → exec (.fieldFrameEnd l) s = .next (after .unknownSource)) ∧
          (senderOf fr.kind = some e.cfg.kind → bindingTakes e.cfg.binding l = false →
            exec (.fieldFrameEnd l) s = .next (after .wrongLine)) ∧
          (senderOf fr.kind = some e.cfg.kind → bindingTakes e.cfg.binding l = true →
            (e.window.take fr.sequence fr.fresh).1 ≠ .good →
            exec (.fieldFrameEnd l) s = .next (after (e.window.take fr.sequence fr.fresh).1)))))) ∧
  crc16 [0x31, 0x32, 0x33, 0x34, 0x35, 0x36, 0x37, 0x38, 0x39] = 0x29B1 ∧
  (∀ (bytes : List Byte) (fr : FieldFrame), parseFieldFrame bytes = some fr ↔
    ∃ (source hi lo kind : Byte) (payload covered : List Byte), payload.length ≤ 22 ∧
      (match kind.toNat % 128 with | 1 => 7 | 2 => 4 | 3 => 1 | 5 => 2 | 6 => 1 | 7 => 2 | _ => 0) ≤ payload.length ∧
      covered = source :: hi :: lo :: kind :: BitVec.ofNat 8 payload.length :: payload ∧
      bytes = covered ++ [(crc16 covered >>> 8).setWidth 8, (crc16 covered).setWidth 8] ∧
      fr = ⟨source.toNat, hi.toNat * 256 + lo.toNat, kind.toNat % 128, decide (128 ≤ kind.toNat), payload⟩) ∧
  (∀ (fr : FieldFrame) (a b c d e f g : Byte) (more : List Byte) (signed : Byte → Byte → Int),
    (∀ hi lo, signed hi lo = if hi.toNat < 128 then ((hi.toNat * 256 + lo.toNat : Nat) : Int)
      else ((hi.toNat * 256 + lo.toNat : Nat) : Int) - 65536) →
    (fr.kind = 1 → fr.payload = a :: b :: c :: d :: e :: f :: g :: more → fr.read = some (.position (signed a b) (signed c d)
      (min 100 e.toNat) f.toNat (decide (g.toNat / 4 % 2 = 1)) (decide (g.toNat / 8 % 2 = 1)))) ∧
    (fr.kind = 2 → fr.payload = a :: b :: c :: d :: more → fr.read = some (.obstacle (signed a b) (signed c d))) ∧
    (fr.kind = 3 → fr.payload = a :: more → fr.read = some (.mowerFault (if a.toNat = 0 then 255 else a.toNat))) ∧
    (fr.kind = 4 → fr.read = some .motion) ∧
    (fr.kind = 5 → fr.payload = a :: b :: more → fr.read = some (.wind (min 600 (a.toNat * 256 + b.toNat)))) ∧
    (fr.kind = 6 → fr.payload = a :: more → fr.read = some (.rain (decide (a.toNat ≠ 0)))) ∧
    (fr.kind = 7 → fr.payload = a :: b :: more → fr.read = some (.dusk (a.toNat * 256 + b.toNat))))

/-- FIELD_FRAME_END on a GOOD frame of a sensor: the frame is counted, the source's window and last-heard are written, and
the reading reaches its block: WIND the Show Engine, DUSK and MOTION the Light Unit, RAIN the planner, which reports a
change of the rain state; with a dry-wait of 0 a dry reading makes a dispatch pass at once. The candidate of a DUSK reading
is the one that R150 tables by the present state and the lux (R29, R30, R80, R96, R142, R150, R151, R154). That a dry-wait
of 0 gives DRY at once with its pass is the model's choice (DEDUCED, assumption log 29). -/
def Obligations.SensorFramesReachTheirBlocks : Prop :=
  ∀ (s : State) (l : Line) (i : SourceId) (src : Source) (fr : FieldFrame) (w : Window) (f : FieldUnit),
    s.field.Hears l i src fr w → f = s.field.afterGood l i src w s.time.secs →
    (∀ v, fr.read = some (.wind v) → ∃ t, exec (.fieldFrameEnd l) s = .next t ∧ s.sameHost t ∧ t.mode = s.mode ∧
      t.field = f ∧ t.position = s.position ∧ t.planner = s.planner ∧
      t.toBench.calm = { s.toBench with shows :=
        { s.shows with wind := some v, windSilent := false, windFactor := windFactorOf s.shows.cfg v } }.calm) ∧
    (∀ (lux : Nat) (d : DuskState), fr.read = some (.dusk lux) → d = (match s.lights.dusk with
        | .day => if 400 ≤ lux then .day else if 40 ≤ lux then .dusk else .night
        | .dusk => if 600 ≤ lux then .day else if 40 ≤ lux then .dusk else .night
        | .night => if 600 ≤ lux then .day else if 60 ≤ lux then .dusk else .night) →
      exec (.fieldFrameEnd l) s = .next { s with
        field := f,
        lights := { s.lights with
          lux := some lux, silent := false, onset := false,
          pendingDusk :=
            if d = s.lights.dusk then none
            else if s.lights.pendingDusk.map PendingDusk.state = some d then s.lights.pendingDusk
            else some ⟨d, s.now + 120000⟩ } }) ∧
    (∀ e, fr.read = some .motion → s.lights.motionMap.toList.find? (fun e => e.source = some i) = some e →
      s.lights.dusk ≠ .day → ∃ t, exec (.fieldFrameEnd l) s = .next t ∧ s.sameHost t ∧ t.mode = s.mode ∧
        t.field = f ∧ t.position = s.position ∧ t.planner = s.planner ∧
        (∀ c, (t.lamp c).calm = (if c ∈ e.circuits ∧ (s.lamp c).cfg.inUse = true then
          { s.lamp c with motion := (s.lamp c).cfg.motionLevel, motionExpiry := some (s.now + s.lights.motionHold * 1000) }
          else s.lamp c).calm) ∧
        t.toBench.calm = { s.toBench with lights := t.lights }.calm) ∧
    (fr.read = some .motion → s.lights.dusk = .day → exec (.fieldFrameEnd l) s = .next { s with field := f }) ∧
    (∀ wet, fr.read = some (.rain wet) → ∃ t, exec (.fieldFrameEnd l) s = .next t ∧ s.sameHost t ∧
      t.planner.rainSilent = false ∧ t.planner.rainOnset = false ∧ t.field.steady = f.steady ∧
      Garden.onlyMowers { s.toGarden with field := f, planner := { s.planner with
        rainSilent := false, rainOnset := false, rain := t.planner.rain,
        dryWaitExpiry := t.planner.dryWaitExpiry } } t.toGarden ∧
      (wet = true → t.planner.rain = .wet) ∧
      (wet = true → s.planner.rain ≠ .wet → t.planner.dryWaitExpiry = none ∧
        s.toBench.told t.toBench (.rainState .wet)) ∧
      (wet = true → s.planner.rain = .dry → ∀ k, (s.mower k).state.working = true →
        (t.mower k).state = .homebound .rain) ∧
      (wet = false → s.planner.rain = .wet → s.planner.cfg.dryWait ≠ 0 → t.planner.rain = .waiting ∧
        t.planner.dryWaitExpiry = some (s.now + s.planner.cfg.dryWait * 60000) ∧
        s.toBench.told t.toBench (.rainState .waiting)) ∧
      (wet = false → s.planner.rain = .wet → s.planner.cfg.dryWait = 0 → t.planner.rain = .dry ∧
        s.toBench.told t.toBench (.rainState .dry) ∧
        Garden.passes { s.toGarden with
          field := f, reports := s.reports.add s.stamp (.rainState .dry),
          planner := { s.planner with rainSilent := false, rainOnset := false, rain := .dry, dryWaitExpiry := none } }
          t.toGarden) ∧
      (wet = false → s.planner.rain ≠ .wet → t.planner.rain = s.planner.rain))

/-- FIELD_FRAME_END on a GOOD frame of a mower that a slot names. POSITION: a running capture of the slot counts it; a
current delivery writes the track record and what FU read, answers, resends or gives up an order, and moves the mower as R56
lists it: among other cases, a plain update of a MOWING mower goes to the work along its lane, one of a mower that yields to
the retry, one that meets R67 to the arrival check; an OUTBOUND mower departs at its first frame off the dock, and docks
only after that; one behind the record only answers an order. OBSTACLE: the cell joins the block list, lanes are cut before
it, and its holder leaves its lane. MOWER_FAULT: the mower is FAULTED (MOWER_FAULT) with the code (R6, R29, R40, R42, R46,
R55, R56, R58, R60, R63, R65, R67, R68, R86, R93, R99). That a mower that yields asks at an off-map update too is the
model's choice (assumption log 43). -/
def Obligations.PositionFramesReachTheFleet : Prop :=
  ∀ (s : State) (l : Line) (i : SourceId) (src : Source) (fr : FieldFrame) (w : Window) (f : FieldUnit) (k : Slot),
    s.field.Hears l i src fr w → f = s.field.afterGood l i src w s.time.secs → s.slotOf i = some k →
    (∀ (rx ry : Int) (battery echo : Nat) (lifted docked : Bool),
      fr.read = some (.position rx ry battery echo lifted docked) → ∃ t, exec (.fieldFrameEnd l) s = .next t ∧
      s.sameHost t ∧ t.mode = s.mode ∧ t.time = s.time ∧ tget t.field.sources i = some ⟨src.cfg, some s.time.secs, w⟩ ∧
      (∀ c, s.position.capture = some c → c.slot = k → c.count < 7 → t.position.stakes = s.position.stakes ∧
        t.position.capture = some { c with count := c.count + 1, sumX := c.sumX + rx, sumY := c.sumY + ry }) ∧
      (∀ (c : Capture) (r : StakeRec), s.position.capture = some c → c.slot = k → 7 ≤ c.count →
        r = t.position.stakes.get c.stake → t.position.capture = none ∧
        t.position.stakes = s.position.stakes.put c.stake
          { s.position.stakes.get c.stake with isSet := true, rawX := r.rawX, rawY := r.rawY } ∧
        16 * r.rawX - 8 ≤ 2 * (c.sumX + rx) ∧ 2 * (c.sumX + rx) < 16 * r.rawX + 8 ∧
        16 * r.rawY - 8 ≤ 2 * (c.sumY + ry) ∧ 2 * (c.sumY + ry) < 16 * r.rawY + 8 ∧
        s.toBench.told t.toBench (.stakeCaptured c.stake r.gardenX r.gardenY r.rawX r.rawY)) ∧
      ((∀ c ∈ s.position.capture, c.slot ≠ k) →
        t.position.capture = s.position.capture ∧ t.position.stakes = s.position.stakes) ∧
      ((s.track k).behind fr.sequence fr.fresh = true → t.position.tracks = s.position.tracks ∧ t.field = f ∧
        t.planner = s.planner ∧ t.toBench = { s.toBench with
          reports := t.reports,
          fleet := s.fleet.put k { s.fleet.get k with ctx := { s.mower k with
            outstanding := (s.mower k).outstanding.filter (fun o => o.number ≠ echo) } } }) ∧
      ((s.track k).behind fr.sequence fr.fresh = false →
        { t.track k with tracker := 0 } = { (s.track k).placed rx ry (s.place rx ry) with
          sequence := some fr.sequence, time := some s.time.secs, tracker := 0 } ∧
        (t.mower k).battery = some battery ∧ (t.mower k).lastDocked = docked ∧ (t.mower k).lastLifted = lifted ∧
        (t.mower k).lastEcho = echo ∧ (t.mower k).lastHeard = some s.now ∧
        (t.mower k).deadline = some (s.now + (s.slot k).cfg.timeout * 1000) ∧
        (lifted = true → (s.mower k).state.isFaulted = false → (t.mower k).state = .faulted .lifted ∧
          (t.mower k).outstanding = some ⟨(s.mower k).nextOrder, .stop, 0⟩ ∧
          s.toBench.told t.toBench (.mowerState k (.faulted .lifted) (s.mower k).faultCode (some battery))) ∧
        (lifted = true → (s.mower k).state.isFaulted = true → (t.mower k).state = (s.mower k).state) ∧
        (lifted = false → docked = true → (s.mower k).state.supervised = true ∨ (s.mower k).state = .lost →
          (s.mower k).state ≠ .outbound → (t.mower k).state.atDock = true ∧ (t.mower k).outstanding = none) ∧
        (lifted = false → docked = true → (s.mower k).state = .absent →
          (∀ o ∈ (s.mower k).outstanding, o.number = echo) → (t.mower k).state.atDock = true ∧
          s.toBench.told t.toBench (.mowerState k .docked none (some battery))) ∧
        (lifted = false → docked = false → battery ≤ (s.slot k).cfg.homeboundLevel →
          (s.mower k).state.working = true ∨ (s.mower k).state = .absent ∨ (s.mower k).state = .lost →
          (t.mower k).state = .homebound .battery ∧ t.freed k ∧
          (t.mower k).outstanding = some ⟨(s.mower k).nextOrder, .returnHome, 0⟩ ∧
          s.toBench.told t.toBench (.mowerState k (.homebound .battery) none (some battery))) ∧
        (lifted = false → docked = false → (s.slot k).cfg.homeboundLevel < battery →
          (s.mower k).state = .absent ∨ (s.mower k).state = .lost →
          s.toBench.told t.toBench (.mowerState k (.paused .recovered) none (some battery)) ∧
          (s.mode = .setup → (t.mower k).state = .homebound .setup) ∧
          (s.mode = .run → s.clock = none ∨ s.planner.cfg.enabled = false →
            (t.mower k).state = .homebound .laneDoneNoWork) ∧
          (s.mode = .run → s.clock.isSome = true → s.planner.cfg.enabled = true →
            (s.planner.rain ≠ .dry → (t.mower k).state = .homebound .rain) ∧
            (s.planner.rain = .dry → s.inQuiet = true → (t.mower k).state = .homebound .quiet) ∧
            (s.planner.rain = .dry → s.inQuiet = false → (t.mower k).state = .homebound .laneDoneNoWork ∨
              ((t.mower k).state = .outbound ∧ (t.lane k).isSome = true)))) ∧
        ((s.mower k).state = .outbound → docked = false → (t.mower k).departed = true) ∧
        (lifted = false → docked = true → (s.mower k).state = .outbound → (s.mower k).departed = true →
          (t.mower k).state.atDock = true ∧ (t.mower k).outstanding = none ∧ t.freed k ∧
          s.toBench.told t.toBench (.mowerState k .docked none (some battery))) ∧
        (∀ h x : Garden, h = Garden.heard { s.toGarden with field := f } k fr.sequence rx ry ⟨battery, echo, lifted, docked⟩ →
          lifted = false → (s.slot k).cfg.homeboundLevel < battery →
          docked = false ∨ ((s.mower k).state = .outbound ∧ (s.mower k).departed = false) →
          x = (match (s.mower k).state with
            | .mowing => match s.lane k with
              | some lane => h.moveAlong k lane
              | none => h.nextLane k none
            | .paused .yield => h.retryYield k
            | .outbound => if h.arriving k = true then h.arrive k else h
            | _ => h) →
          (s.mower k).state.working = true ∨ (s.mower k).state.isFaulted = true →
          h.planner = s.planner ∧ h.field = f ∧ h.ground.grid = s.ground.grid ∧
          { h.track k with tracker := 0 } = { t.track k with tracker := 0 } ∧
          h.mower k = { s.mower k with
            battery := some battery, lastDocked := docked, lastLifted := lifted, lastEcho := echo, lastHeard := some s.now,
            deadline := some (s.now + (s.slot k).cfg.timeout * 1000),
            departed := (s.mower k).departed || decide ((s.mower k).state = .outbound ∧ docked = false),
            outstanding := (s.mower k).outstanding.filter (fun o => o.number ≠ echo) } ∧
          (h.arriving k = true ↔ (s.mower k).state = .outbound ∧ (h.mower k).outstanding = none ∧
            (h.mower k).departed = true ∧ ∃ a, (h.track k).cell = some a ∧ ∃ lane, s.lane k = some lane ∧
              lane.cells.head? = some a) ∧
          t.toGarden = (if (x.mower k).nextOrder = (h.mower k).nextOrder then x.resend k else x).on
            (fun b => b.tendCharger k)) ∧
        (∀ c, (s.mower k).state = .homebound c → lifted = false → docked = false →
          (∀ o ∈ (s.mower k).outstanding, o.number = echo → (t.mower k).outstanding = none ∧
            (t.mower k).state = .homebound c ∧ t.field = f) ∧
          (∀ o ∈ (s.mower k).outstanding, o.number ≠ echo →
            (s.field.tx.holds i o.number = true → (t.mower k).outstanding = some o ∧
              (t.mower k).state = .homebound c ∧ t.field = f) ∧
            (s.field.tx.holds i o.number = false → o.resends < 3 →
              (t.mower k).outstanding = some { o with resends := o.resends + 1 } ∧
              (t.mower k).state = .homebound c ∧ t.field = f.arrive ⟨i, o.kind, o.number⟩ s.now) ∧
            (s.field.tx.holds i o.number = false → 3 ≤ o.resends → (t.mower k).state = .faulted .noEcho ∧
              (t.mower k).outstanding = some ⟨(s.mower k).nextOrder, .stop, 0⟩ ∧
              s.toBench.told t.toBench
                (.mowerState k (.faulted .noEcho) (s.mower k).faultCode (some battery))))))) ∧
    (∀ (rx ry : Int), fr.read = some (.obstacle rx ry) →
      ((s.place rx ry).cell = none → exec (.fieldFrameEnd l) s = .next { s with field := f }) ∧
      (∀ a, (s.place rx ry).cell = some a → ∃ t, exec (.fieldFrameEnd l) s = .next t ∧ s.sameHost t ∧
        Garden.onlyMowers { s.toGarden with
          field := f, ground := s.ground.listBlock a (s.now + s.planner.cfg.obstacleHold * 60000) } t.toGarden ∧
        ((s.ground.cell a).claim = none → (∀ j, ∀ x ∈ s.lane j, a ∉ x.cells) → t.toGarden = { s.toGarden with
          field := f, ground := s.ground.listBlock a (s.now + s.planner.cfg.obstacleHold * 60000) }) ∧
        (∀ j x n, s.lane j = some x → (s.ground.cell a).claim ≠ some j → x.cells.idxOf? a = some n →
          x.current < n → x.current + x.window ≤ n → (t.lane j).map Lane.cells = some (x.cells.take n)) ∧
        (∀ j c, (s.ground.cell a).claim = some j → (s.mower j).state = .mowing ∨ (s.mower j).state = .paused c →
          (s.lane j = none → (t.mower j).state = .paused .blocked) ∧
          (∀ x, s.lane j = some x → t.ground.noClaims j ∧
            ((t.mower j).state = .outbound ∨ (t.mower j).state = .homebound .laneDoneNoWork) ∧
            (s.ground.grid.wf = true → ∀ b, x.cells[x.current]? = some b → b ≠ a →
              (t.ground.cell b).lastMown = some s.today)) ∧
          ((s.mower j).state = .mowing →
            s.toBench.told t.toBench (.mowerState j (.paused .blocked) none (s.mower j).battery))))) ∧
    (∀ code, fr.read = some (.mowerFault code) →
      ((s.mower k).state = .faulted .mowerFault → (s.mower k).faultCode = some code →
        exec (.fieldFrameEnd l) s = .next { s with field := f }) ∧
      ((s.mower k).state = .faulted .mowerFault → (s.mower k).faultCode ≠ some code →
        exec (.fieldFrameEnd l) s = .next { s with
          field := f, fleet := s.fleet.put k { s.fleet.get k with ctx := { s.mower k with faultCode := some code } },
          reports := s.reports.add s.stamp (.mowerState k (.faulted .mowerFault) (some code) (s.mower k).battery) }) ∧
      ((s.mower k).state ≠ .faulted .mowerFault → ∃ t, exec (.fieldFrameEnd l) s = .next t ∧ s.sameHost t ∧
        Garden.onlyMowers { s.toGarden with
          field := f, fleet := s.fleet.put k { s.fleet.get k with ctx := { s.mower k with faultCode := some code } } }
          t.toGarden ∧
        s.toBench.told t.toBench (.mowerState k (.faulted .mowerFault) (some code) (s.mower k).battery) ∧
        ((s.mower k).state.isFaulted = true →
          t.mower k = { s.mower k with state := .faulted .mowerFault, faultCode := some code } ∧ t.field = f) ∧
        ((s.mower k).state.isFaulted = false → t.mower k = { s.mower k with
          state := .faulted .mowerFault, faultCode := some code, nextOrder := nextNumber (s.mower k).nextOrder,
          outstanding := some ⟨(s.mower k).nextOrder, .stop, 0⟩,
          deadline := if (s.mower k).state.supervised = true then (s.mower k).deadline
            else some (s.now + (s.slot k).cfg.timeout * 1000) }) ∧
        ((s.mower k).state.working = true → t.freed k)))

/-- An order that arrives is placed at the end of its class, begins at once on an idle transmitter, and with 16 orders
queued displaces the newest waiting NORMAL order if it is a STOP, or is dropped and counted. ORDER_AIR_TIME_END: the order
in flight leaves the queue and is counted, and the next, the oldest URGENT one before the oldest NORMAL one, begins with the
present link sequence; nothing else changes (R30, R32, R33, R34). That it acts only once the running time reaches the
flight's end within the present second, and moves up to it, is the model's choice (assumption log 1). -/
def Obligations.AirTimeEnds : Prop :=
  (∀ (f : FieldUnit) (o : Order) (now : Nat), f.tx.size < 16 →
    (f.tx.inFlight = none → f.tx.urgent = [] → f.tx.normal = [] → f.arrive o now = { f with tx :=
      ⟨some ⟨o, f.tx.linkSeq, now + o.kind.airTime⟩, [], [], (f.tx.linkSeq + 1) % 65536⟩ }) ∧
    (f.tx.inFlight.isSome = true → o.kind = .stop →
      f.arrive o now = { f with tx := { f.tx with urgent := f.tx.urgent ++ [o] } }) ∧
    (f.tx.inFlight.isSome = true → o.kind ≠ .stop →
      f.arrive o now = { f with tx := { f.tx with normal := f.tx.normal ++ [o] } })) ∧
  (∀ (f : FieldUnit) (o : Order) (now : Nat), 16 ≤ f.tx.size → f.tx.inFlight.isSome = true →
    (o.kind = .stop → f.tx.normal ≠ [] → f.arrive o now = { f with
      live := { f.live with droppedNormal := bump 4294967295 f.live.droppedNormal },
      tx := { f.tx with normal := f.tx.normal.take (f.tx.normal.length - 1), urgent := f.tx.urgent ++ [o] } }) ∧
    (o.kind = .stop → f.tx.normal = [] → f.arrive o now = { f with
      live := { f.live with droppedUrgent := bump 4294967295 f.live.droppedUrgent } }) ∧
    (o.kind ≠ .stop → f.arrive o now = { f with
      live := { f.live with droppedNormal := bump 4294967295 f.live.droppedNormal } })) ∧
  (∀ s : State, (∀ x ∈ s.field.tx.inFlight, s.time.secs < x.ends / 1000) → exec .orderAirTimeEnd s = .next s) ∧
  (∀ (s : State) (x : Flight), s.field.tx.inFlight = some x → x.ends / 1000 ≤ s.time.secs → ∃ t,
    exec .orderAirTimeEnd s = .next t ∧
    t = { s with time := s.time.reach x.ends, field := { s.field with live := t.field.live, tx := t.field.tx } } ∧
    (x.order.kind = .stop → t.field.live = { s.field.live with sentUrgent := bump 4294967295 s.field.live.sentUrgent }) ∧
    (x.order.kind ≠ .stop → t.field.live = { s.field.live with sentNormal := bump 4294967295 s.field.live.sentNormal }) ∧
    (∀ o u, s.field.tx.urgent = o :: u → t.field.tx =
      ⟨some ⟨o, s.field.tx.linkSeq, t.now + o.kind.airTime⟩, u, s.field.tx.normal, (s.field.tx.linkSeq + 1) % 65536⟩) ∧
    (∀ o u, s.field.tx.urgent = [] → s.field.tx.normal = o :: u → t.field.tx =
      ⟨some ⟨o, s.field.tx.linkSeq, t.now + o.kind.airTime⟩, [], u, (s.field.tx.linkSeq + 1) % 65536⟩) ∧
    (s.field.tx.urgent = [] → s.field.tx.normal = [] → t.field.tx = ⟨none, [], [], s.field.tx.linkSeq⟩))

/-- The transmit queue stays within 16 orders over every step, and an idle transmitter never has an order waiting
(R33, R34). -/
def Obligations.TransmitQueueBounded : Prop :=
  ∀ s t : State, s.field.tx.bounded → step s = .next t → t.field.tx.bounded

/-- The duplicate window by the forward distance `d` from the newest sequence to a frame's and the distance `b` back. A
fresh frame that copies the one that opened the window is DUPLICATE, any other resets the window (R27). Without the flag:
the first frame opens the window, a newer one moves it on and ends the fresh mark, one within 31 behind is DUPLICATE or
joins late, and any other is STALE (R26). -/
def Obligations.FreshFramesResetTheWindow : Prop :=
  (∀ (w : Window) (s : Nat),
    (w.fresh = some s → s ∈ w.accepted → w.take s true = (.duplicate, w)) ∧
    (¬ (w.fresh = some s ∧ s ∈ w.accepted) → w.take s true = (.good, ⟨some s, [s], some s⟩)) ∧
    (w.newest = none → w.take s false = (.good, ⟨some s, [s], none⟩))) ∧
  (∀ (w : Window) (s n d b : Nat), w.newest = some n → d = (s + 65536 - n % 65536) % 65536 →
    b = (n + 65536 - s % 65536) % 65536 →
    (1 ≤ d → d ≤ 32767 → (w.take s false).1 = .good ∧ (w.take s false).2.newest = some s ∧
      (w.take s false).2.fresh = none ∧
      ∀ x, x ∈ (w.take s false).2.accepted ↔ x = s ∨ (x ∈ w.accepted ∧ (s + 65536 - x % 65536) % 65536 ≤ 31)) ∧
    (¬ (1 ≤ d ∧ d ≤ 32767) → b ≤ 31 → s ∈ w.accepted → w.take s false = (.duplicate, w)) ∧
    (¬ (1 ≤ d ∧ d ≤ 32767) → b ≤ 31 → s ∉ w.accepted →
      w.take s false = (.good, { w with accepted := w.accepted ++ [s] })) ∧
    (¬ (1 ≤ d ∧ d ≤ 32767) → 31 < b → w.take s false = (.stale, w)))

/-! ### Position Unit -/

/-- CALIBRATE_STAKE begins a capture, with the stake UNSET and its garden position clamped and written; it is refused
NO_SUCH for a stake, a slot or an unbound slot, and BUSY during a capture. CAPTURE_DEADLINE fails a capture whose deadline
the running second count has reached with TIMEOUT, the stake left UNSET; with no capture, or before its deadline, it finds
nothing to do (R44, R45, R47). -/
def Obligations.CaptureBeginsAndTimesOut : Prop :=
  (∀ (s : State) (q : CalibrateStake) (k : Stake) (m : Slot), s.takes (.calibrateStake (.fields q)) →
    q.stake = stakeNo k → q.slot = slotNo m → (s.slot m).cfg.source.isSome = true →
    (s.position.capture = none → exec (.calibrateStake (.fields q)) s = .next
      (s.answer { s.toGarden with position := { s.position with
          stakes := s.position.stakes.put k { s.position.stakes.get k with
            isSet := false, gardenX := min 4799 q.x, gardenY := min 3199 q.y },
          capture := some ⟨k, m, 0, 0, 0, s.time.secs + 30⟩ } }
        (.accepted [u1 q.stake, u2 (min 4799 q.x), u2 (min 3199 q.y), u1 q.slot]))) ∧
    (s.position.capture.isSome = true → exec (.calibrateStake (.fields q)) s = .next
      (s.answer s.toGarden (.refused .busy [])))) ∧
  (∀ (s : State) (q : CalibrateStake), s.takes (.calibrateStake (.fields q)) →
    (q.stake = 0 ∨ 3 < q.stake ∨ 2 < q.slot ∨ ∃ m, q.slot = slotNo m ∧ (s.slot m).cfg.source = none) →
    exec (.calibrateStake (.fields q)) s = .next (s.answer s.toGarden (.refused .noSuch []))) ∧
  (∀ (s : State) (c : Capture), s.position.capture = some c → c.deadline ≤ s.time.secs → exec .captureDeadline s = .next
    { s with
      reports := s.reports.add s.stamp (.calibrationFailed c.stake .timeout),
      position := { s.position with capture := none } }) ∧
  (∀ s : State, (∀ c ∈ s.position.capture, s.time.secs < c.deadline) → exec .captureDeadline s = .next s)

/-- CALIBRATE_SOLVE: BUSY during a capture, INCONSISTENT with the UNSET stakes, DEGENERATE with det below 16, OVERFLOW
with the first coefficient out of range, each changing nothing; otherwise the coefficients are the exact quotients
rounded to the nearest with halves upward, the stakes are UNSET, and every held record is placed afresh. A coefficient
is out of range outside the signed 32-bit range, and the first in the order A to F is named (R49, R50). -/
def Obligations.SolveReplacesTheTransform : Prop :=
  (∀ (s : State) (det : Int), s.takes (.calibrateSolve (.fields ())) →
    det = (s.position.stakes.k1.rawX * (s.position.stakes.k2.rawY - s.position.stakes.k3.rawY)
      - s.position.stakes.k2.rawX * (s.position.stakes.k1.rawY - s.position.stakes.k3.rawY)
      + s.position.stakes.k3.rawX * (s.position.stakes.k1.rawY - s.position.stakes.k2.rawY)) →
    (s.position.capture.isSome = true →
      exec (.calibrateSolve (.fields ())) s = .next (s.answer s.toGarden (.refused .busy []))) ∧
    (s.position.capture = none → (∃ k, (s.position.stakes.get k).isSet = false) →
      exec (.calibrateSolve (.fields ())) s = .next (s.answer s.toGarden (.refused .inconsistent
        (groupFields (allStakes.filter (fun k => !(s.position.stakes.get k).isSet)) (fun k => [u1 (stakeNo k)]))))) ∧
    (s.position.capture = none → (∀ k, (s.position.stakes.get k).isSet = true) → -16 < det → det < 16 →
      exec (.calibrateSolve (.fields ())) s = .next (s.answer s.toGarden (.refused .degenerate [signedField 1 det]))) ∧
    (∀ (c : Coeffs) (near : Int → Int → Prop),
      (∀ n x, near n x ↔ (0 < det → 2 * x * det - det ≤ 2 * (65536 * n) ∧ 2 * (65536 * n) < 2 * x * det + det) ∧
        (det < 0 → 2 * x * det - det ≥ 2 * (65536 * n) ∧ 2 * (65536 * n) > 2 * x * det + det)) →
      s.position.capture = none → (∀ k, (s.position.stakes.get k).isSet = true) → det ≤ -16 ∨ 16 ≤ det →
      c = s.position.stakes.solve → ∀ p : ByStake StakeRec, p = s.position.stakes →
      near (p.k1.gardenX * (p.k2.rawY - p.k3.rawY) - p.k2.gardenX * (p.k1.rawY - p.k3.rawY)
        + p.k3.gardenX * (p.k1.rawY - p.k2.rawY)) c.a ∧
      near (p.k1.rawX * (p.k2.gardenX - p.k3.gardenX) - p.k2.rawX * (p.k1.gardenX - p.k3.gardenX)
        + p.k3.rawX * (p.k1.gardenX - p.k2.gardenX)) c.b ∧
      near (p.k1.gardenX * (p.k2.rawX * p.k3.rawY - p.k3.rawX * p.k2.rawY)
        - p.k2.gardenX * (p.k1.rawX * p.k3.rawY - p.k3.rawX * p.k1.rawY)
        + p.k3.gardenX * (p.k1.rawX * p.k2.rawY - p.k2.rawX * p.k1.rawY)) c.c ∧
      near (p.k1.gardenY * (p.k2.rawY - p.k3.rawY) - p.k2.gardenY * (p.k1.rawY - p.k3.rawY)
        + p.k3.gardenY * (p.k1.rawY - p.k2.rawY)) c.d ∧
      near (p.k1.rawX * (p.k2.gardenY - p.k3.gardenY) - p.k2.rawX * (p.k1.gardenY - p.k3.gardenY)
        + p.k3.rawX * (p.k1.gardenY - p.k2.gardenY)) c.e ∧
      near (p.k1.gardenY * (p.k2.rawX * p.k3.rawY - p.k3.rawX * p.k2.rawY)
        - p.k2.gardenY * (p.k1.rawX * p.k3.rawY - p.k3.rawX * p.k1.rawY)
        + p.k3.gardenY * (p.k1.rawX * p.k2.rawY - p.k2.rawX * p.k1.rawY)) c.f ∧
      (∀ n, c.overflow = some n → exec (.calibrateSolve (.fields ())) s = .next
        (s.answer s.toGarden (.refused .overflow [u1 n]))) ∧
      (c.overflow = none → ∃ t, exec (.calibrateSolve (.fields ())) s = .next t ∧
        s.replied t (.accepted [signedField 4 c.a, signedField 4 c.b, signedField 4 c.c, signedField 4 c.d,
          signedField 4 c.e, signedField 4 c.f]) ∧
        t.position.coeffs = c ∧ t.position.capture = none ∧
        (∀ k, t.position.stakes.get k = { p.get k with isSet := false }) ∧
        (∀ k, (s.track k).raw = none → t.track k = s.track k) ∧
        (∀ k rx ry, (s.track k).raw = some (rx, ry) → { t.track k with tracker := 0 } =
          { (s.track k).placed rx ry
              (Garden.place { s.toGarden with position := { s.position with coeffs := c } } rx ry) with tracker := 0 }) ∧
        t.mode = s.mode ∧ t.field = s.field ∧ t.planner = s.planner ∧ t.toBench.steady = s.toBench.steady))) ∧
  (∀ (c : Coeffs) (all : List Int) (fits : Int → Prop), all = [c.a, c.b, c.c, c.d, c.e, c.f] →
    (∀ x, fits x ↔ -2147483648 ≤ x ∧ x ≤ 2147483647) →
    (c.overflow = none ↔ ∀ x ∈ all, fits x) ∧
    (∀ n, c.overflow = some (n + 1) ↔ (∃ x, all[n]? = some x ∧ ¬ fits x) ∧ ∀ x ∈ all.take n, fits x) ∧
    c.overflow ≠ some 0)

/-! ### Fleet Unit -/

/-- MOWER_HOLD and MOWER_RELEASE by state: a MOWING mower pauses with the cause HOLD and a HOLD order, a mower PAUSED
(HOLD) mows again with a RESUME order, each reported, a mower that is there already changes nothing, any other state and an
unbound or unknown slot are refused (R54, R64, R70). -/
def Obligations.HoldAndReleasePauseAndResume : Prop :=
  (∀ (s : State) (k : Slot), (s.slot k).cfg.source.isSome = true →
    (s.takes (.mowerHold (.fields (slotNo k))) →
      ((s.mower k).state = .mowing → ∃ t, exec (.mowerHold (.fields (slotNo k))) s = .next t ∧
        s.replied t (.accepted [u1 6, [1, 1]]) ∧ s.toGarden.onlyMowers t.toGarden ∧
        t.mower k = { s.mower k with
          state := .paused .hold, nextOrder := nextNumber (s.mower k).nextOrder,
          outstanding := some ⟨(s.mower k).nextOrder, .hold, 0⟩ } ∧ t.planner = s.planner ∧
        s.toBench.told t.toBench (.mowerState k (.paused .hold) none (s.mower k).battery)) ∧
      ((s.mower k).state = .paused .hold → exec (.mowerHold (.fields (slotNo k))) s = .next
        (s.answer s.toGarden (.accepted [u1 6, [1, 1]]))) ∧
      ((s.mower k).state ≠ .mowing → (s.mower k).state ≠ .paused .hold →
        exec (.mowerHold (.fields (slotNo k))) s = .next
          (s.answer s.toGarden (.refused .inconsistent (s.stateFields k))))) ∧
    (s.takes (.mowerRelease (.fields (slotNo k))) →
      ((s.mower k).state = .paused .hold → ∃ t, exec (.mowerRelease (.fields (slotNo k))) s = .next t ∧
        s.replied t (.accepted [u1 5, [0]]) ∧ s.toGarden.onlyMowers t.toGarden ∧
        t.mower k = { s.mower k with
          state := .mowing, nextOrder := nextNumber (s.mower k).nextOrder,
          outstanding := some ⟨(s.mower k).nextOrder, .resume, 0⟩ } ∧ t.planner = s.planner ∧
        s.toBench.told t.toBench (.mowerState k .mowing none (s.mower k).battery)) ∧
      ((s.mower k).state = .mowing → exec (.mowerRelease (.fields (slotNo k))) s = .next
        (s.answer s.toGarden (.accepted [u1 5, [0]]))) ∧
      ((s.mower k).state ≠ .mowing → (s.mower k).state ≠ .paused .hold →
        exec (.mowerRelease (.fields (slotNo k))) s = .next
          (s.answer s.toGarden (.refused .inconsistent (s.stateFields k)))))) ∧
  (∀ (s : State) (n : Nat), (2 < n ∨ ∃ k, n = slotNo k ∧ (s.slot k).cfg.source = none) →
    (s.takes (.mowerHold (.fields n)) →
      exec (.mowerHold (.fields n)) s = .next (s.answer s.toGarden (.refused .noSuch []))) ∧
    (s.takes (.mowerRelease (.fields n)) →
      exec (.mowerRelease (.fields n)) s = .next (s.answer s.toGarden (.refused .noSuch []))))

/-- MOWER_RECALL sends a working mower HOMEBOUND (RECALL) with a RETURN order, its lane and claims gone, leaves a
HOMEBOUND mower as it is, and is refused otherwise. MOWER_CLEAR_FAULT takes a FAULTED mower out of the fault: at its
dock it is docked with no order outstanding, away from it its deadline starts afresh, it is reported PAUSED (RECOVERED),
and MP sends it on: in SETUP HOMEBOUND (SETUP); with the clock UNSET or mowing off HOMEBOUND (LANE_DONE_NO_WORK);
otherwise with rain HOMEBOUND (RAIN), in quiet hours HOMEBOUND (QUIET), and else OUTBOUND with a lane and its GO_LANE
order, in the zone of its own cell where that is due, free and dry and has a cell to mow, or HOMEBOUND
(LANE_DONE_NO_WORK); each way home has its RETURN order and leaves no lane or claim. Any other state is refused. Each
change of state is reported (R54, R57, R64, R71, R73, R82, R99). That a recovered mower's zone is the track record's
zone field is the model's choice (assumption log 56). -/
def Obligations.RecallAndClearFault : Prop :=
  ∀ (s : State) (k : Slot), (s.slot k).cfg.source.isSome = true →
    (s.takes (.mowerRecall (.fields (slotNo k))) →
      ((s.mower k).state.working = true → ∃ t, exec (.mowerRecall (.fields (slotNo k))) s = .next t ∧
        s.replied t (.accepted [u1 7, [1, 10]]) ∧ s.toGarden.onlyMowers t.toGarden ∧
        (t.mower k).state = .homebound .recall ∧
        (t.mower k).outstanding = some ⟨(s.mower k).nextOrder, .returnHome, 0⟩ ∧ t.freed k ∧
        s.toBench.told t.toBench (.mowerState k (.homebound .recall) none (s.mower k).battery)) ∧
      (∀ c, (s.mower k).state = .homebound c → exec (.mowerRecall (.fields (slotNo k))) s = .next
        (s.answer s.toGarden (.accepted (s.stateFields k)))) ∧
      ((s.mower k).state.working = false → (∀ c, (s.mower k).state ≠ .homebound c) →
        exec (.mowerRecall (.fields (slotNo k))) s = .next
          (s.answer s.toGarden (.refused .inconsistent (s.stateFields k))))) ∧
    (s.takes (.mowerClearFault (.fields (slotNo k))) →
      ((s.mower k).state.isFaulted = false → exec (.mowerClearFault (.fields (slotNo k))) s = .next
        (s.answer s.toGarden (.refused .inconsistent (s.stateFields k)))) ∧
      ((s.mower k).state.isFaulted = true → ∃ t, exec (.mowerClearFault (.fields (slotNo k))) s = .next t ∧
        s.replied t (.accepted (t.stateFields k)) ∧ s.toGarden.onlyMowers t.toGarden ∧
        (t.mower k).state.isFaulted = false ∧
        ((s.mower k).lastDocked = true → (t.mower k).state.atDock = true ∧ (t.mower k).outstanding = none ∧
          s.toBench.told t.toBench (.mowerState k .docked none (s.mower k).battery)) ∧
        ((s.mower k).lastDocked = false →
          s.toBench.told t.toBench (.mowerState k (.paused .recovered) none (s.mower k).battery) ∧
          s.toBench.told t.toBench (.mowerState k (t.mower k).state none (s.mower k).battery) ∧
          (t.mower k).deadline = some (s.now + (s.slot k).cfg.timeout * 1000) ∧
          (s.mode = .setup → (t.mower k).state = .homebound .setup) ∧
          (s.mode = .run → s.clock = none ∨ s.planner.cfg.enabled = false →
            (t.mower k).state = .homebound .laneDoneNoWork) ∧
          (s.mode = .run → s.clock.isSome = true → s.planner.cfg.enabled = true →
            (s.planner.rain ≠ .dry → (t.mower k).state = .homebound .rain) ∧
            (s.planner.rain = .dry → s.inQuiet = true → (t.mower k).state = .homebound .quiet) ∧
            (s.planner.rain = .dry → s.inQuiet = false → (t.mower k).state = .homebound .laneDoneNoWork ∨
              ((t.mower k).state = .outbound ∧ (t.lane k).isSome = true))) ∧
          (∀ c, (t.mower k).state = .homebound c → t.freed k ∧
            (t.mower k).outstanding = some ⟨(s.mower k).nextOrder, .returnHome, 0⟩) ∧
          (∀ x, (t.mower k).state = .outbound → t.lane k = some x → (t.ground.zone x.zone).assigned = some k ∧
            (t.mower k).departed = true ∧
            (t.mower k).outstanding = some ⟨(s.mower k).nextOrder, .goLane (t.laneFields x), 0⟩)) ∧
        (∀ (g : Garden) (a b : CellAddr) (z : ZoneId) (e : DueEntry),
          g = (s.toGarden.editMower k (fun x => { x with outstanding := none })).enter k (.paused .recovered) →
          (s.mower k).lastDocked = false → s.mode = .run → s.mayMow = true → (s.track k).cell = some a →
          (s.track k).zone = some z → s.planner.due.find? (fun e => e.zone = z) = some e → g.dueAndFree e = true →
          s.ground.grid.wf = true → (s.ground.cell b).zone = some z → g.ground.mowable b = true →
          (∀ d ∈ (s.ground.cell b).lastMown, dayDistance d ((s.ground.zone z).roundStart.getD s.today) < 0) →
          (t.mower k).state = .outbound ∧ (t.lane k).map Lane.zone = some z ∧ (t.ground.zone z).assigned = some k ∧
          (b = a → (t.lane k).bind (fun x => x.cells.head?) = some a))))

/-- MOWER_DISPATCH: each outcome is told behind the mower's state and cause. All but DISPATCHED change nothing (not docked,
not charged, planner conditions, no due zone). DISPATCHED comes about where the first entry of the due queue that is due,
free and dry is of a zone with an unmown, mowable cell: the mower is OUTBOUND with a lane there, the zone is assigned to it,
a GO_LANE is outstanding, and the reply gives the zone and the lane's first and last cells. A lane is built from the lowest
row with an available cell, in its parity's direction, over the longest run from the first one, where there is one (R72,
R79, R81, R82, R83). That the outcome stands behind the state and cause is the model's choice (assumption log 16). -/
def Obligations.DispatchGivesALane : Prop :=
  (∀ (s : State) (k : Slot), s.takes (.mowerDispatch (.fields (slotNo k))) → (s.slot k).cfg.source.isSome = true →
    ((s.mower k).state.atDock = false → exec (.mowerDispatch (.fields (slotNo k))) s = .next
      (s.answer s.toGarden (.accepted (s.stateFields k ++ [u1 1])))) ∧
    ((s.mower k).state.atDock = true → s.charged k = false → exec (.mowerDispatch (.fields (slotNo k))) s = .next
      (s.answer s.toGarden (.accepted (s.stateFields k ++ [u1 2])))) ∧
    ((s.mower k).state.atDock = true → s.charged k = true → s.mayMow = false →
      exec (.mowerDispatch (.fields (slotNo k))) s = .next
        (s.answer s.toGarden (.accepted (s.stateFields k ++ [u1 3])))) ∧
    ((s.mower k).state.atDock = true → s.charged k = true → s.mayMow = true → ∃ t,
      exec (.mowerDispatch (.fields (slotNo k))) s = .next t ∧ t.store = s.store ∧ t.pending = s.pending ∧
      s.toGarden.onlyMowers t.toGarden ∧
      (t = s.answer s.toGarden (.accepted (s.stateFields k ++ [u1 4])) ∨
        ((t.mower k).state = .outbound ∧ (t.lane k).isSome = true)) ∧
      (∀ x, t.lane k = some x → (t.mower k).state = .outbound →
        t.link = s.link.answer (.accepted ([u1 4, [0], u1 5, u1 (x.zone.val + 1)] ++
          (x.cells.head?.toList ++ x.cells.getLast?.toList).map cellField)) ∧
        (t.ground.zone x.zone).assigned = some k ∧
        (t.mower k).outstanding = some ⟨(s.mower k).nextOrder, .goLane (t.laneFields x), 0⟩)) ∧
    (∀ (e : DueEntry) (a : CellAddr), (s.mower k).state.atDock = true → s.charged k = true → s.mayMow = true →
      s.planner.due.find? s.dueAndFree = some e → s.ground.grid.wf = true → (s.ground.cell a).zone = some e.zone →
      s.ground.mowable a = true →
      (∀ d ∈ (s.ground.cell a).lastMown, dayDistance d ((s.ground.zone e.zone).roundStart.getD s.today) < 0) →
      ∃ t, exec (.mowerDispatch (.fields (slotNo k))) s = .next t ∧ ∃ x, t.lane k = some x ∧ x.zone = e.zone ∧
        s.replied t (.accepted ([u1 4, [0], u1 5, u1 (e.zone.val + 1)] ++
          (x.cells.head?.toList ++ x.cells.getLast?.toList).map cellField)) ∧
        s.toGarden.onlyMowers t.toGarden ∧ (t.mower k).state = .outbound ∧ (t.ground.zone e.zone).assigned = some k ∧
        (t.mower k).outstanding = some ⟨(s.mower k).nextOrder, .goLane (t.laneFields x), 0⟩ ∧
        x.cells ≠ [] ∧ x.current = 0 ∧ x.window = 0 ∧ (∀ b ∈ x.cells, (s.ground.cell b).zone = some e.zone ∧
          s.ground.mowable b = true) ∧
        s.toBench.told t.toBench (.mowerState k .outbound none (s.mower k).battery))) ∧
  (∀ (s : State) (n : Nat), s.takes (.mowerDispatch (.fields n)) →
    (2 < n ∨ ∃ k, n = slotNo k ∧ (s.slot k).cfg.source = none) →
    exec (.mowerDispatch (.fields n)) s = .next (s.answer s.toGarden (.refused .noSuch []))) ∧
  (∀ (g : Garden) (k : Slot) (z : ZoneId), g.ground.grid.wf = true →
    ((∀ a, ¬ g.availableTo k z a) → g.buildLane k z = none) ∧
    (∀ a, g.availableTo k z a → (g.buildLane k z).isSome = true) ∧
    (∀ x, g.buildLane k z = some x → x.zone = z ∧ x.current = 0 ∧ x.window = 0 ∧ x.arrival = some (g.now + 600000) ∧
      x.direction = (if x.row.val % 2 = 0 then .increasing else .decreasing) ∧
      (∀ a, g.availableTo k z a → x.row ≤ a.row) ∧ (∀ a ∈ x.cells, g.availableTo k z a ∧ a.row = x.row) ∧
      (∀ n, ∀ a ∈ x.cells[n]?, ∀ b ∈ x.cells[n + 1]?,
        (x.row.val % 2 = 0 → b.col.val = a.col.val + 1) ∧ (x.row.val % 2 = 1 → a.col.val = b.col.val + 1)) ∧
      (∀ a ∈ x.cells.head?, x.startX = a.col.val * 50 + 25 ∧ x.startY = a.row.val * 50 + 25 ∧
        ∀ b, g.availableTo k z b → b.row = x.row →
          (x.row.val % 2 = 0 → a.col ≤ b.col) ∧ (x.row.val % 2 = 1 → b.col ≤ a.col)) ∧
      (∀ a ∈ x.cells.getLast?, x.endX = a.col.val * 50 + 25 ∧ x.endY = a.row.val * 50 + 25 ∧
        ∀ b, b.row = x.row → (x.row.val % 2 = 0 → b.col.val = a.col.val + 1 → ¬ g.availableTo k z b) ∧
          (x.row.val % 2 = 1 → a.col.val = b.col.val + 1 → ¬ g.availableTo k z b)) ∧ x.cells ≠ []))

/-- HEARTBEAT_EXPIRY: a supervised mower whose deadline the running time has reached is LOST, with its report, no order
outstanding and no deadline; a working one loses its lane and its claims. Any other mower is not touched, one whose deadline
a delivery has moved on among them (R54, R57, R61, R62). That the deadline counts as reached within the present second, and
that running time moves up to it, is the model's choice (assumption log 1). -/
def Obligations.HeartbeatLost : Prop :=
  (∀ (s : State) (k : Slot) (d : Nat), (s.mower k).state.supervised = true → (s.mower k).deadline = some d →
    d / 1000 ≤ s.time.secs →
    ∃ t, exec (.heartbeatExpiry k) s = .next t ∧ s.sameHost t ∧
      Garden.onlyMowers { s.toGarden with time := s.time.reach d } t.toGarden ∧
      t.mower k = { s.mower k with state := .lost, outstanding := none, deadline := none } ∧ t.field = s.field ∧
      s.toBench.told t.toBench (.mowerState k .lost none (s.mower k).battery) ∧
      ((s.mower k).state.working = true → t.freed k) ∧
      ((s.mower k).state.working = false → t.planner = s.planner)) ∧
  (∀ (s : State) (k : Slot), ((s.mower k).state.supervised = true → ∀ d ∈ (s.mower k).deadline, s.time.secs < d / 1000) →
    exec (.heartbeatExpiry k) s = .next s)

/-- FLEET_SET writes the clamped configuration. A slot that keeps its source keeps its context; one that takes another
source, or none, loses its lane and claims, is ABSENT with the context of power-on and an empty track record, and a capture
on it fails. A source out of range, levels out of order and a source that another slot names are refused (R39, R48, R52). -/
def Obligations.FleetSetBindsTheSlot : Prop :=
  ∀ (s : State) (q : FleetSet) (k : Slot) (c : FleetCfg), s.takes (.fleetSet (.fields q)) → q.slot = slotNo k →
    c = ⟨index? 40 q.source, max 20 (min 300 q.ratedWatts), max 3 (min 30 q.timeout), max 10 (min 100 q.dispatchLevel),
      max 5 (min 95 q.homeboundLevel)⟩ →
    (40 < q.source → exec (.fleetSet (.fields q)) s = .next (s.answer s.toGarden (.refused .noSuch []))) ∧
    (q.source ≤ 40 → c.dispatchLevel ≤ c.homeboundLevel →
      exec (.fleetSet (.fields q)) s = .next (s.answer s.toGarden (.refused .inconsistent []))) ∧
    (∀ j i, q.source ≤ 40 → c.homeboundLevel < c.dispatchLevel → c.source = some i → j ≠ k →
      (s.slot j).cfg.source = some i →
      exec (.fleetSet (.fields q)) s = .next (s.answer s.toGarden (.refused .inconsistent []))) ∧
    (q.source ≤ 40 → c.homeboundLevel < c.dispatchLevel →
      (∀ j i, j ≠ k → c.source = some i → (s.slot j).cfg.source ≠ some i) →
      ∃ t, exec (.fleetSet (.fields q)) s = .next t ∧ s.replied t (.accepted c.fields) ∧ (t.slot k).cfg = c ∧
        (∀ j, j ≠ k → (t.slot j).calm = (s.slot j).calm) ∧ t.mode = s.mode ∧ t.time = s.time ∧
        t.field = s.field ∧ t.water.calm = s.water.calm ∧ t.shows.calm = s.shows.calm ∧ t.power.calm = s.power.calm ∧
        (c.source = (s.slot k).cfg.source → s.toGarden.sameBeyondBench t.toGarden ∧
          (t.slot k).calm = { s.slot k with cfg := c }.calm) ∧
        (c.source ≠ (s.slot k).cfg.source → t.mower k = MowerCtx.start ∧ t.track k = Track.empty ∧ t.lane k = none ∧
          t.planner.yields.get k = none ∧ t.ground.noClaims k ∧ t.planner.steady = s.planner.steady ∧
          (∀ p, s.position.capture = some p → p.slot = k → t.position.capture = none) ∧
          (∀ p, s.position.capture = some p → p.slot ≠ k → t.position.capture = some p)))

/-! ### Mowing Planner -/

/-- PLAN_SET writes the clamped settings and judges quiet hours under them; MOWING_ENABLE writes the switch and, turned
on, makes a dispatch pass. Besides the judgement, only mowers move. That a MOWING_ENABLE on which changes nothing makes
a pass too is the model's choice (DEDUCED, assumption log 19). The due queue: a zone is eligible while it is LAWN, not
withdrawn and in use; an eligible zone enters with its due day, at its place in the order and in place of its old entry;
a built queue holds the eligible zones, each once, and is empty while the clock is UNSET. The quiet window runs from
start to end, across midnight where the start is the later, and is empty where they are equal (R77, R78, R80, R81, R97,
R98).
That on and off take the bytes 1 and 0 is the model's choice (DESIGN CHOICE, assumption log 89). -/
def Obligations.PlanSettingsWritten : Prop :=
  (∀ (s : State) (q : PlanSet) (c : PlanCfg), s.takes (.planSet (.fields q)) →
    c = ⟨s.planner.cfg.enabled, max 10 (min 240 q.obstacleHold), max 5 (min 120 q.yieldTime), min 600 q.dryWait,
      min 1439 q.quietStart, min 1439 q.quietEnd⟩ →
    ∃ t, exec (.planSet (.fields q)) s = .next t ∧
      s.replied t (.accepted [u1 c.obstacleHold, u1 c.yieldTime, u2 c.dryWait, u2 c.quietStart, u2 c.quietEnd]) ∧
      t.planner.cfg = c ∧ t.planner.quiet = (match s.clock with | some x => quietAt c x.second | none => false) ∧
      Garden.onlyMowers { s.toGarden with planner := { s.planner with cfg := c, quiet := t.planner.quiet } } t.toGarden ∧
      (s.planner.quiet = true → t.planner.quiet = true →
        t.toGarden = { s.toGarden with planner := { s.planner with cfg := c } }) ∧
      (s.planner.quiet = false → t.planner.quiet = true → ∀ k, (s.mower k).state.working = true →
        (t.mower k).state = .homebound .quiet) ∧
      (t.planner.quiet = false → s.planner.quiet = true → Garden.passes { s.toGarden with
        planner := { s.planner with cfg := c, quiet := false } } t.toGarden) ∧
      (t.planner.quiet = false → s.planner.quiet = false → t.toGarden = { s.toGarden with
        planner := { s.planner with cfg := c } })) ∧
  (∀ (s : State), s.takes (.mowingEnable (.fields false)) → exec (.mowingEnable (.fields false)) s = .next
    (s.answer { s.toGarden with planner := { s.planner with cfg := { s.planner.cfg with enabled := false } } }
      (.accepted [u1 0]))) ∧
  (∀ (s : State), s.takes (.mowingEnable (.fields true)) → ∃ t, exec (.mowingEnable (.fields true)) s = .next t ∧
    s.replied t (.accepted [u1 1]) ∧
    Garden.onlyMowers { s.toGarden with planner := { s.planner with cfg := { s.planner.cfg with enabled := true } } }
      t.toGarden ∧
    Garden.passes { s.toGarden with planner := { s.planner with cfg := { s.planner.cfg with enabled := true } } }
      t.toGarden ∧
    (s.mode = .setup → t.toGarden =
      { s.toGarden with planner := { s.planner with cfg := { s.planner.cfg with enabled := true } } })) ∧
  (∀ (m : MapUnit) (z : ZoneId), m.grid.wf = true → (m.eligible z = true ↔ (m.zone z).cfg.kind = .lawn ∧
    (m.zone z).cfg.withdrawn = false ∧ ∃ a, (m.cell a).zone = some z)) ∧
  (∀ (g : Garden) (z : ZoneId), g.ground.eligible z = false → g.enterDue z = g) ∧
  (∀ (g : Garden) (z : ZoneId), g.ground.eligible z = true →
    g.enterDue z = { g with planner := { g.planner with due := (g.enterDue z).planner.due } } ∧
    (g.dueSorted → (g.enterDue z).dueSorted) ∧
    ∀ e, e ∈ (g.enterDue z).planner.due ↔ e = ⟨z, g.dueDay z⟩ ∨ (e ∈ g.planner.due ∧ e.zone ≠ z)) ∧
  (∀ g : Garden, g.buildQueue = { g with planner := { g.planner with due := g.buildQueue.planner.due } } ∧
    (g.clock = none → g.buildQueue.planner.due = []) ∧
    (g.clock.isSome = true → g.buildQueue.dueSorted ∧
      ∀ e, e ∈ g.buildQueue.planner.due ↔ g.ground.eligible e.zone = true ∧ e.due = g.dueDay e.zone)) ∧
  (∀ (c : PlanCfg) (x : Nat),
    (c.quietStart < c.quietEnd → (quietAt c x = true ↔ c.quietStart * 60 ≤ x ∧ x < c.quietEnd * 60)) ∧
    (c.quietEnd < c.quietStart → (quietAt c x = true ↔ c.quietStart * 60 ≤ x ∨ x < c.quietEnd * 60)) ∧
    (c.quietStart = c.quietEnd → quietAt c x = false))

/-- A mower's way along its lane. An arrival check claims the first cell, or gives up the lane; a position update releases
and stamps the cells passed; the window fills to 8 claims, up to the first refusal, which begins a yield or cuts the lane; a
cut lane keeps what stands before the cut, and one cut to nothing its old end fields (DEDUCED, assumption log 20); at its
end the current cell is stamped, the claims go, and the mower is sent on, in its zone while that has an available cell, or
home. ARRIVAL_EXPIRY sends it home; YIELD_EXPIRY asks once more and, refused, sets the cell aside, ends the lane and sends
the mower on or home; the retry at a position update resumes, waits on, or ends the lane before the cell (R83, R85–R91).
That an expiry acts only once the running time reaches it within the present second, and moves up to it, is the model's
choice (assumption log 1). -/
def Obligations.ArrivalAndYieldExpire : Prop :=
  (∀ (s : State) (k : Slot) (l : Lane) (x : Nat), s.lane k = some l → l.arrival = some x → x / 1000 ≤ s.time.secs → ∃ t,
    exec (.arrivalExpiry k) s = .next t ∧ s.sameHost t ∧
    Garden.onlyMowers { s.toGarden with time := s.time.reach x } t.toGarden ∧ t.freed k ∧
    ((s.mower k).state.working = true → (t.mower k).state = .homebound .laneDoneNoWork ∧
      (t.mower k).outstanding = some ⟨(s.mower k).nextOrder, .returnHome, 0⟩) ∧
    ((s.mower k).state.working = false → t.fleet = s.fleet)) ∧
  (∀ (s : State) (k : Slot), (∀ x ∈ s.arrivalOf k, s.time.secs < x / 1000) → exec (.arrivalExpiry k) s = .next s) ∧
  (∀ (s : State) (k : Slot) (y : Yield), s.planner.yields.get k = some y → y.expiry / 1000 ≤ s.time.secs → ∃ t,
    exec (.yieldExpiry k) s = .next t ∧ s.sameHost t ∧
    Garden.onlyMowers { s.toGarden with time := s.time.reach y.expiry } t.toGarden ∧
    (s.ground.claimAnswer k y.cell = .granted → (s.mower k).state = .paused .yield →
      s.toBench.told t.toBench (.mowerState k .mowing none (s.mower k).battery)) ∧
    (s.ground.claimAnswer k y.cell = .granted → (s.mower k).state ≠ .paused .yield →
      t.planner.yields.get k = none ∧ t.ground = s.ground.claim k y.cell) ∧
    (s.ground.claimAnswer k y.cell ≠ .granted → t.planner.yields.get k = none ∧
      (y.cell ∈ t.planner.setAside.get k ∨ t.planner.setAside.get k = []) ∧
      ((s.lane k).isSome = true → (s.mower k).state = .paused .yield → t.ground.noClaims k ∧
        ((t.mower k).state = .outbound ∨ (t.mower k).state = .homebound .laneDoneNoWork)))) ∧
  (∀ (s : State) (k : Slot), (∀ y ∈ s.planner.yields.get k, s.time.secs < y.expiry / 1000) →
    exec (.yieldExpiry k) s = .next s) ∧
  (∀ (g t : Garden) (k : Slot) (l : Lane) (a : CellAddr), t = g.arrive k → g.lane k = some l → l.cells.head? = some a →
    (g.mower k).state = .outbound → l.current = 0 → l.cells.Nodup → g.ground.grid.wf = true →
    (g.ground.claimAnswer k a = .granted → g.told t.toBench (.mowerState k .mowing none (g.mower k).battery) ∧
      ((t.mower k).state = .mowing ∨ (t.mower k).state = .paused .yield → (t.ground.cell a).claim = some k ∧
        (t.lane k).map Lane.arrival = some none ∧ (t.lane k).map Lane.current = some 0)) ∧
    (g.ground.claimAnswer k a ≠ .granted → t.ground.noClaims k ∧
      ((t.mower k).state = .outbound ∨ (t.mower k).state = .homebound .laneDoneNoWork))) ∧
  (∀ (g t : Garden) (k : Slot) (l : Lane), t = g.moveAlong k l → g.lane k = some l → g.ground.grid.wf = true →
    l.cells.Nodup →
    ((∀ c ∈ (g.track k).cell, c ∉ l.cells) → t = g) ∧
    (∀ c n, (g.track k).cell = some c → l.cells.idxOf? c = some n →
      (∀ b ∈ (l.cells.take n).drop l.current,
        (t.ground.cell b).lastMown = some g.today ∧ (t.ground.cell b).claim ≠ some k) ∧
      ((g.mower k).state = .mowing → (t.mower k).state = .mowing ∨ (t.mower k).state = .paused .yield →
        (t.lane k).map Lane.current = some (max l.current n)))) ∧
  (∀ (g t : Garden) (k : Slot) (l : Lane) (asked : List CellAddr), t = g.fillWindow k → g.lane k = some l →
    g.ground.grid.wf = true → l.cells.Nodup → asked = (l.cells.drop l.current).take 8 →
    ((∀ b ∈ asked, g.ground.claimAnswer k b = .granted) → t.toBench = { g.toBench with ground := t.ground } ∧
      (t.lane k).map Lane.cells = some l.cells ∧ (asked ≠ [] → (t.lane k).map Lane.window = some asked.length) ∧
      ∀ b, t.ground.cell b = if b ∈ asked then { g.ground.cell b with claim := some k } else g.ground.cell b) ∧
    (∀ n, ∀ a ∈ asked[n]?, g.ground.claimAnswer k a ≠ .granted →
      (∀ b ∈ asked.take n, g.ground.claimAnswer k b = .granted) →
      (∀ b ∈ asked.take n, (t.ground.cell b).claim = some k) ∧ (t.ground.cell a).claim = (g.ground.cell a).claim ∧
      (g.ground.claimAnswer k a = .yield → (t.lane k).map Lane.cells = some l.cells ∧
        (n ≤ 1 → (g.mower k).state = .mowing → g.planner.yields.get k = none →
          (t.mower k).state = .paused .yield ∧
          (t.mower k).outstanding = some ⟨(g.mower k).nextOrder, .hold, 0⟩ ∧
          t.planner.yields.get k = some ⟨a, g.now + g.planner.cfg.yieldTime * 1000⟩) ∧
        (2 ≤ n → t.fleet = g.fleet ∧ t.planner.yields = g.planner.yields)) ∧
      (g.ground.claimAnswer k a ≠ .yield → t.fleet = g.fleet ∧ t.planner.yields = g.planner.yields ∧
        (t.lane k).map Lane.cells = some (l.cells.take (l.current + n))))) ∧
  (∀ (g t : Garden) (k : Slot), t = g.retryYield k → (g.planner.yields.get k = none → t = g) ∧
    ∀ y, g.planner.yields.get k = some y → (g.mower k).state = .paused .yield →
      (g.ground.claimAnswer k y.cell = .yield → t = g) ∧
      (g.ground.claimAnswer k y.cell = .granted → g.told t.toBench (.mowerState k .mowing none (g.mower k).battery) ∧
        ((t.mower k).state = .mowing → t.planner.yields.get k = none ∧
          (t.mower k).outstanding = some ⟨(g.mower k).nextOrder, .resume, 0⟩)) ∧
      ((g.lane k).isSome = true → g.ground.claimAnswer k y.cell = .wet ∨ g.ground.claimAnswer k y.cell = .unmowable →
        t.planner.yields.get k = none ∧ t.ground.noClaims k ∧
        ((t.mower k).state = .outbound ∨ (t.mower k).state = .homebound .laneDoneNoWork))) ∧
  (∀ (g t : Garden) (k : Slot) (l : Lane) (n : Nat), t = g.truncate k n → g.lane k = some l →
    t = { g with ground := t.ground, planner := t.planner, position := t.position } ∧
    (∀ j, t.lane j = if j = k then some { l with
        cells := l.cells.take n, window := min l.window ((l.cells.take n).length - l.current),
        endX := match (l.cells.take n).getLast? with | some a => a.col.val * 50 + 25 | none => l.endX,
        endY := match (l.cells.take n).getLast? with | some a => a.row.val * 50 + 25 | none => l.endY } else g.lane j) ∧
    (g.ground.grid.wf = true → ∀ a, t.ground.cell a =
      if a ∈ l.cells.drop n ∧ (g.ground.cell a).claim = some k then { g.ground.cell a with claim := none }
      else g.ground.cell a)) ∧
  (∀ (g t : Garden) (k : Slot) (l : Lane), t = g.endLane k true → g.lane k = some l → g.ground.grid.wf = true →
    t.ground.noClaims k ∧ t.planner.yields.get k = none ∧
    (∀ a ∈ l.cells[l.current]?, (t.ground.cell a).lastMown = some g.today) ∧
    ((g.mower k).state = .mowing → (g.planner.cfg.enabled = false → (t.mower k).state = .homebound .laneDoneNoWork) ∧
      ((t.mower k).state = .outbound ∨ (t.mower k).state = .homebound .laneDoneNoWork) ∧
      (∀ a, g.planner.cfg.enabled = true → (g.ground.zone l.zone).assigned = some k → (g.ground.zone l.zone).wet = false →
        g.availableTo k l.zone a → l.cells[l.current]? ≠ some a →
        (t.mower k).state = .outbound ∧ (t.lane k).map Lane.zone = some l.zone)))

/-- PASS_TIMER sets itself 60 s on and makes a dispatch pass: the lowest ready slot gets a lane in the first entry of the
due queue that is due, free and dry, where that zone has an unmown, mowable cell; in SETUP, or with no slot ready, nothing
else changes. DRY_WAIT_EXPIRY turns WAITING into DRY, reported, and makes such a pass. A dispatch pass of any garden is one
that these words describe. RAIN_SILENT marks and reports, once, the silence of a rain sensor that the part has (R79, R80,
R81, R96). That an expiry acts only once the running time reaches it within the present second, and moves up to it
(assumption log 1), and that a silence is measured in running seconds and its onset taken once (assumption log 26), is the
model's choice. -/
def Obligations.PlannerTimers : Prop :=
  (∀ s : State, s.planner.passTimer / 1000 ≤ s.time.secs → ∃ t, exec .passTimer s = .next t ∧ s.sameHost t ∧
    Garden.onlyMowers { s.toGarden with
      time := s.time.reach s.planner.passTimer,
      planner := { s.planner with passTimer := s.planner.passTimer + 60000 } } t.toGarden ∧
    (s.mode = .setup ∨ s.mayMow = false ∨ (∀ k, s.ready k = false) → t.toGarden = { s.toGarden with
      time := s.time.reach s.planner.passTimer,
      planner := { s.planner with passTimer := s.planner.passTimer + 60000 } }) ∧
    (∀ k, (s.mower k).state.atDock = false → (t.mower k).state = (s.mower k).state ∧ t.lane k = s.lane k) ∧
    (∀ (k : Slot) (e : DueEntry) (a : CellAddr), s.mode = .run → s.mayMow = true → s.ready k = true →
      (∀ j, slotNo j < slotNo k → s.ready j = false) → s.planner.due.find? s.dueAndFree = some e →
      s.ground.grid.wf = true → (s.ground.cell a).zone = some e.zone → s.ground.mowable a = true →
      (∀ d ∈ (s.ground.cell a).lastMown, dayDistance d ((s.ground.zone e.zone).roundStart.getD s.today) < 0) →
      (t.mower k).state = .outbound ∧ (t.lane k).map Lane.zone = some e.zone ∧
      (t.ground.zone e.zone).assigned = some k ∧
      ∀ x ∈ t.lane k, (t.mower k).outstanding = some ⟨(s.mower k).nextOrder, .goLane (t.laneFields x), 0⟩)) ∧
  (∀ s : State, s.time.secs < s.planner.passTimer / 1000 → exec .passTimer s = .next s) ∧
  (∀ (s : State) (x : Nat), s.planner.rain = .waiting → s.planner.dryWaitExpiry = some x → x / 1000 ≤ s.time.secs → ∃ t,
    exec .dryWaitExpiry s = .next t ∧ s.sameHost t ∧ s.toBench.told t.toBench (.rainState .dry) ∧
    Garden.onlyMowers { s.toGarden with
      time := s.time.reach x, planner := { s.planner with rain := .dry, dryWaitExpiry := none } } t.toGarden ∧
    Garden.passes { s.toGarden with
      time := s.time.reach x,
      reports := s.reports.add (Bench.stamp { s.toBench with time := s.time.reach x }) (.rainState .dry),
      planner := { s.planner with rain := .dry, dryWaitExpiry := none } } t.toGarden ∧
    (s.mode = .setup → t.toGarden = { s.toGarden with
      time := s.time.reach x,
      reports := s.reports.add (Bench.stamp { s.toBench with time := s.time.reach x }) (.rainState .dry),
      planner := { s.planner with rain := .dry, dryWaitExpiry := none } })) ∧
  (∀ s : State, s.planner.rain ≠ .waiting ∨ (∀ x ∈ s.planner.dryWaitExpiry, s.time.secs < x / 1000) →
    exec .dryWaitExpiry s = .next s) ∧
  (∀ g : Garden, g.passes g.dispatchPass) ∧
  (∀ s : State, s.silentFor .rain 1800 = true → s.planner.rainOnset = false → exec .rainSilent s = .next
    { s with
      reports := s.reports.add s.stamp .rainSilent,
      planner := { s.planner with rainSilent := true, rainOnset := true } }) ∧
  (∀ s : State, s.silentFor .rain 1800 = false ∨ s.planner.rainOnset = true → exec .rainSilent s = .next s)

/-! ### Water Unit -/

/-- WATER_LEVELS_SET, TOPUP_SET, FILTER_SET and PUMP_CURVE_SET write the clamped settings, or are refused INCONSISTENT
for thresholds out of order, a clog level not above the limit, or a curve that decreases; an unknown merit type is
refused BAD_BODY. New levels re-evaluate the three flags at once; a used-up cap closes an OPEN or waiting valve, and
otherwise the valve's ask takes the new watts and its grant opens it or lets it wait; the filter settings act from the
next use; a new curve begins a search afresh in SEARCHING and LOCKED, moves a backwash's pump, and leaves a stopped,
starved or faulted filter (R102, R103, R105, R111, R112, R113). That TOPUP_CAPPED gives the cap in seconds is the
model's choice (DEDUCED, assumption log 48), as is the unknown merit type refused before the clog level is looked at
(assumption log 46). -/
def Obligations.WaterSettingsWritten : Prop :=
  (∀ (s : State) (q : WaterLevelsSet) (l : Levels), s.takes (.waterLevelsSet (.fields q)) →
    l = ⟨min 1500 q.filterLow, min 1500 q.fountainLow, min 1500 q.fillOn, min 1500 q.fillOff⟩ →
    (¬ (l.filterLow < l.fountainLow ∧ l.fountainLow < l.fillOn ∧ l.fillOn < l.fillOff) →
      exec (.waterLevelsSet (.fields q)) s = .next (s.answer s.toGarden (.refused .inconsistent []))) ∧
    (l.filterLow < l.fountainLow → l.fountainLow < l.fillOn → l.fillOn < l.fillOff → ∃ t,
      exec (.waterLevelsSet (.fields q)) s = .next t ∧
      s.replied t (.accepted [u2 l.filterLow, u2 l.fountainLow, u2 l.fillOn, u2 l.fillOff]) ∧
      s.toGarden.sameBeyondBench t.toGarden ∧ t.toBench.calm = { s.toBench with water := { s.water with
        cfg := { s.water.cfg with levels := l },
        starved := levelFlag s.water.starved l.filterLow (l.filterLow + 10) s.water.level,
        supplyLow := levelFlag s.water.supplyLow l.fountainLow (l.fountainLow + 10) s.water.level,
        demand := levelFlag s.water.demand l.fillOn l.fillOff s.water.level } }.calm)) ∧
  (∀ (s : State) (q : TopupSet), s.takes (.topupSet (.fields q)) → ∃ t, exec (.topupSet (.fields q)) s = .next t ∧
    s.replied t (.accepted [u1 (min 240 q.capMinutes), u1 (max 1 (min 100 q.watts))]) ∧
    s.toGarden.sameBeyondBench t.toGarden ∧ t.toBench.calm = { s.toBench with water := { s.water with
      cfg := { s.water.cfg with capMinutes := min 240 q.capMinutes, topupWatts := max 1 (min 100 q.watts) } } }.calm ∧
    (s.water.topup = .opened ∨ s.water.topup = .waitPower → min 240 q.capMinutes * 60 ≤ s.water.capCount →
      t.water.topup = .capped ∧ (t.load topupLoad).askA = 0 ∧
      s.toBench.told t.toBench (.topupCapped s.water.capCount (min 240 q.capMinutes * 60))) ∧
    (s.water.topup = .opened ∨ s.water.topup = .waitPower → s.water.capCount < min 240 q.capMinutes * 60 →
      (t.load topupLoad).askA = max 1 (min 100 q.watts) ∧
      ((s.load topupLoad).askA ≠ max 1 (min 100 q.watts) → t.water.topup =
        if (t.load topupLoad).askA ≤ (t.load topupLoad).grantA then .opened else .waitPower) ∧
      ((s.load topupLoad).askA = max 1 (min 100 q.watts) → (s.load topupLoad).askB = 0 → s.power.realloc = false →
        t.water.topup = s.water.topup)) ∧
    (s.water.topup = .closed ∨ s.water.topup = .capped ∨ s.water.topup = .tripped → t.water.topup = s.water.topup)) ∧
  (∀ (s : State) (q : FilterSet) (n : Nat), s.takes (.filterSet (.fields q)) → q.merit = .unknown n →
    exec (.filterSet (.fields q)) s = .next (s.answer s.toGarden (.refused .badBody []))) ∧
  (∀ (s : State) (q : FilterSet) (m : MeritType) (c : FilterCfg), s.takes (.filterSet (.fields q)) → q.merit = .named m →
    c = ⟨max 100 (min 50000 q.k100), max 10 (min 5000 q.qMin), max 10 (min 2000 q.dpMax), max 11 (min 4000 q.dpClog), m,
      max 10 (min 120 q.settleTime), min 7 q.lookBeyond, max 10 (min 600 q.monitorInterval), max 1 (min 10 q.confirmCount),
      max 30 (min 600 q.backwashTime), max 1 (min 48 q.backwashSpacing), max 5 (min 60 q.drainTime)⟩ →
    (c.dpClog ≤ c.dpMax → exec (.filterSet (.fields q)) s = .next (s.answer s.toGarden (.refused .inconsistent []))) ∧
    (c.dpMax < c.dpClog → exec (.filterSet (.fields q)) s = .next
      (s.answer { s.toGarden with water := { s.water with cfg := { s.water.cfg with filter := c } } }
        (.accepted c.fields)))) ∧
  (∀ (s : State) (q : PumpCurveSet) (w : Vector Nat 16), s.takes (.pumpCurveSet (.fields q)) →
    w = q.watts.map (fun x => min 3000 x) →
    (¬ w.toList.Pairwise (fun a b => a ≤ b) →
      exec (.pumpCurveSet (.fields q)) s = .next (s.answer s.toGarden (.refused .inconsistent []))) ∧
    (w.toList.Pairwise (fun a b => a ≤ b) → ∃ t, exec (.pumpCurveSet (.fields q)) s = .next t ∧
      s.replied t (.accepted (groupFields w.toList (fun x => [u2 x]) ++
        [u1 (max 1 (min 16 q.minStep)), u2 (max 50 (min 1500 q.fullWatts))])) ∧
      s.toGarden.sameBeyondBench t.toGarden ∧ t.toBench.calm = { s.toBench with water := { s.water with
        cfg := { s.water.cfg with
          curve := w, minStep := max 1 (min 16 q.minStep), fullWatts := max 50 (min 1500 q.fullWatts) } } }.calm ∧
      (s.water.filter.state = .searching ∨ s.water.filter.state = .locked → t.water.filter.state = .searching ∨
        t.water.filter.state = .locked ∨ t.water.filter.state = .fault .noPower) ∧
      (s.water.filter.state = .stopped ∨ s.water.filter.state = .starved ∨ s.water.filter.state = .fault .clogPersists ∨
        s.water.filter.state = .fault .noFlow ∨ s.water.filter.state = .fault .channelTrip →
        t.water.filter = s.water.filter))) ∧
  (∀ (b : Bench) (n : Nat), n = max b.water.cfg.minStep (b.water.filter.lockedStep.getD b.water.cfg.minStep) →
    b.water.filter.state = .searching ∨ b.water.filter.state = .locked →
    b.takeCurve.water.filter = { b.water.filter with
      state := .searching, powerLimited := false, marginal := false, limit := none, lockFom := none, monitor := none,
      gate := none, backwashExpiry := none, search := some ⟨n, n, .raising, none, none, 0, 0, none⟩ } ∧
    (b.takeCurve.load filterLoad).askA = b.water.cfg.watts b.water.cfg.minStep ∧
    (b.takeCurve.load filterLoad).askB = b.water.cfg.watts n - b.water.cfg.watts b.water.cfg.minStep) ∧
  (∀ b : Bench, b.water.filter.state = .backwash →
    b.takeCurve.water.filter = { b.water.filter with step := b.water.cfg.minStep } ∧
    (b.takeCurve.load filterLoad).askA = b.water.cfg.watts b.water.cfg.minStep ∧ (b.takeCurve.load filterLoad).askB = 0)

/-- FILTER_START, FILTER_STOP and FILTER_CLEAR_FAULT by state: a stopped filter starts, STARVED while the level is low and
otherwise searching from its start step; any filter stops with the pump off; a fault is cleared the same way, CHANNEL_TRIP
only once neither channel is tripped; each change is reported. Otherwise INCONSISTENT, with no change (R106, R108, R113,
R123). That the step reported with SEARCHING is the candidate's is the model's choice (DEDUCED, assumption log 10). -/
def Obligations.FilterStartsStopsAndClears : Prop :=
  (∀ s : State, s.takes (.filterStart (.fields ())) →
    (s.water.filter.state ≠ .stopped → exec (.filterStart (.fields ())) s = .next
      (s.answer s.toGarden (.refused .inconsistent [u1 s.water.filter.state.code]))) ∧
    (s.water.filter.state = .stopped → ∃ t, exec (.filterStart (.fields ())) s = .next t ∧
      s.replied t (.accepted []) ∧ s.toGarden.sameBeyondBench t.toGarden ∧ t.toBench.calm = s.toBench.calm ∧
      (s.water.starved = true → t.water.filter.state = .starved ∧
        s.toBench.told t.toBench (.filterState .starved 0 false false none)) ∧
      (s.water.starved = false → s.toBench.told t.toBench (.filterState .searching
          (max s.water.cfg.minStep (s.water.filter.lockedStep.getD s.water.cfg.minStep)) false false none) ∧
        (t.water.filter.state = .searching ∨ t.water.filter.state = .locked ∨
          t.water.filter.state = .fault .noPower)))) ∧
  (∀ s : State, s.takes (.filterStop (.fields ())) →
    (s.water.filter.state = .stopped → exec (.filterStop (.fields ())) s = .next (s.answer s.toGarden (.accepted []))) ∧
    (s.water.filter.state ≠ .stopped → ∃ t, exec (.filterStop (.fields ())) s = .next t ∧
      s.replied t (.accepted []) ∧ s.toGarden.sameBeyondBench t.toGarden ∧ t.toBench.calm = s.toBench.calm ∧
      s.toBench.told t.toBench (.filterState .stopped 0 false false none) ∧
      t.water.filter = { s.water.filter.halted .stopped with
        lastBackwashEnd := if s.water.filter.state = .backwash then some s.now
          else s.water.filter.lastBackwashEnd })) ∧
  (∀ s : State, s.takes (.filterClearFault (.fields ())) →
    ((∀ c, s.water.filter.state ≠ .fault c) → exec (.filterClearFault (.fields ())) s = .next
      (s.answer s.toGarden (.refused .inconsistent []))) ∧
    (s.water.filter.state = .fault .channelTrip →
      s.power.fnTripped .filterPump = true ∨ s.power.fnTripped .backwashValve = true →
      exec (.filterClearFault (.fields ())) s = .next (s.answer s.toGarden (.refused .inconsistent []))) ∧
    (∀ c, s.water.filter.state = .fault c →
      (c = .channelTrip → s.power.fnTripped .filterPump = false ∧ s.power.fnTripped .backwashValve = false) → ∃ t,
      exec (.filterClearFault (.fields ())) s = .next t ∧ s.replied t (.accepted []) ∧
      s.toGarden.sameBeyondBench t.toGarden ∧ t.toBench.calm = s.toBench.calm ∧
      (c = .clogPersists → t.water.filter.lastBackwashEnd = none) ∧
      (s.water.starved = true → t.water.filter.state = .starved ∧
        s.toBench.told t.toBench (.filterState .starved 0 false false none)) ∧
      (s.water.starved = false → s.toBench.told t.toBench (.filterState .searching
          (max s.water.cfg.minStep (s.water.filter.lockedStep.getD s.water.cfg.minStep)) false false none) ∧
        (t.water.filter.state = .searching ∨ t.water.filter.state = .locked ∨
          t.water.filter.state = .fault .noPower))))

/-- FILTER_BACKWASH in LOCKED or SEARCHING, asked for with the cause HOST: started, the discharge zone is wet, no cell
in it is claimed and the mowers that held one take the revocation notice, and where the supply covers the minimum step
the filter is in BACKWASH on that step until its expiry, a backwash time from now, with its FILTER_STATE, its valve
open, its asks posted, and the fountain WITHHELD with the cause BACKWASH and its report; asked for too soon or with the
valve tripped it is a fault instead; in other states it is refused. BACKWASH_EXPIRY ends the backwash: its end is noted,
every HELD discharge mark is DRYING for the drain time, the valve closes, the supply loses its cause with its report,
and the filter searches again with its FILTER_STATE (R13, R14, R68, R93, R106, R107, R120, R121, R122, R124, R145). That
the expiry acts only once the running time reaches it within the present second, and moves up to it (assumption log 1),
and that the step reported with SEARCHING is the candidate's (DEDUCED, assumption log 10), is the model's choice. -/
def Obligations.BackwashStartsAndEnds : Prop :=
  (∀ s : State, s.takes (.filterBackwash (.fields ())) →
    (s.water.filter.state ≠ .locked → s.water.filter.state ≠ .searching →
      exec (.filterBackwash (.fields ())) s = .next
        (s.answer s.toGarden (.refused .inconsistent [u1 s.water.filter.state.code]))) ∧
    (∀ (tooSoon : Prop), (tooSoon ↔ ∃ x, s.water.filter.lastBackwashEnd = some x ∧
        s.now < x + s.water.cfg.filter.backwashSpacing * 3600000) →
      s.water.filter.state = .locked ∨ s.water.filter.state = .searching → ∃ t,
      exec (.filterBackwash (.fields ())) s = .next t ∧ t.store = s.store ∧ t.pending = s.pending ∧
      s.toGarden.onlyMowers t.toGarden ∧ t.water.filter.backwashCause = some .host ∧
      (tooSoon → t.link = s.link.answer (.accepted [u1 2]) ∧ t.water.filter.state = .fault .clogPersists ∧
        s.toBench.told t.toBench (.filterState (.fault .clogPersists) 0 false false none)) ∧
      (¬ tooSoon → s.power.fnTripped .backwashValve = true →
        t.link = s.link.answer (.accepted [u1 3]) ∧ t.water.filter.state = .fault .channelTrip ∧
        s.toBench.told t.toBench (.filterState (.fault .channelTrip) 0 false false none)) ∧
      (¬ tooSoon → s.power.fnTripped .backwashValve = false → t.link = s.link.answer (.accepted [u1 1]) ∧
        ((s.load filterLoad).askA = s.water.cfg.watts s.water.cfg.minStep →
          s.water.cfg.watts s.water.cfg.minStep ≤ s.power.available → s.power.fnTripped .filterPump = false →
          t.water.filter.state = .backwash ∧ t.water.filter.step = s.water.cfg.minStep ∧
          t.water.filter.backwashExpiry = some (s.now + s.water.cfg.filter.backwashTime * 1000) ∧
          s.toBench.told t.toBench (.filterState .backwash s.water.cfg.minStep false false none) ∧
          (t.load filterLoad).askA = s.water.cfg.watts s.water.cfg.minStep ∧ (t.load filterLoad).askB = 0 ∧
          (∀ c, s.power.channelOf .backwashValve = some c → (t.channel c).requested = 1000) ∧
          t.water.causes = ⟨s.water.supplyLow, true, s.power.fnTripped .fountainPump⟩ ∧
          (s.water.causes ≠ t.water.causes → s.toBench.told t.toBench (.fountainSupply t.water.causes)) ∧
          (s.shows.dry = s.withheld → t.shows.dry = true) ∧
          (∀ z, s.ground.dischargeZone = some z → (t.ground.zone z).dischargeMark = .held)) ∧
        (∀ z, s.ground.dischargeZone = some z → (t.ground.zone z).dischargeMark ≠ .absent ∧
          (s.ground.grid.wf = true → (∀ a, (s.ground.cell a).zone = some z → (t.ground.cell a).claim = none) ∧
            s.toGarden.notifies t.toGarden (fun a => (s.ground.cell a).zone = some z)))))) ∧
  (∀ (s : State) (x : Nat), s.water.filter.state = .backwash → s.water.filter.backwashExpiry = some x →
    x / 1000 ≤ s.time.secs → ∃ t,
    exec .backwashExpiry s = .next t ∧ s.sameHost t ∧ s.toGarden.sameBeyondBench t.toGarden ∧
    t.toBench.calm = { s.toBench with time := s.time.reach x }.calm ∧ t.water.filter.lastBackwashEnd = some t.now ∧
    s.toBench.told t.toBench (.filterState .searching
      (max s.water.cfg.minStep (s.water.filter.lockedStep.getD s.water.cfg.minStep)) false false none) ∧
    (s.water.starved = false → t.water.filter.state = .searching ∨ t.water.filter.state = .locked ∨
      t.water.filter.state = .fault .noPower) ∧ t.water.filter.backwashExpiry = none ∧
    (∀ z, (t.ground.zone z).dischargeMark = match (s.ground.zone z).dischargeMark with
      | .held => .drying (t.now + s.water.cfg.filter.drainTime * 60000)
      | .drying e => .drying e
      | .absent => .absent) ∧
    (∀ c, s.power.channelOf .backwashValve = some c → (t.channel c).requested = 0) ∧
    t.water.causes = ⟨s.water.supplyLow, false, s.power.fnTripped .fountainPump⟩ ∧
    (s.water.causes ≠ t.water.causes → s.toBench.told t.toBench (.fountainSupply t.water.causes)) ∧
    (s.shows.dry = s.withheld → t.shows.dry = t.withheld)) ∧
  (∀ s : State, s.water.filter.state ≠ .backwash ∨ (∀ x ∈ s.water.filter.backwashExpiry, s.time.secs < x / 1000) →
    exec .backwashExpiry s = .next s)

/-- LEVEL_SAMPLE reads the pin against 1,500 mm at 3.0 V and evaluates the three flags with their hysteresis; a filter
that runs is STARVED by the starved flag, and a STARVED one searches again when it clears; a demand takes a CLOSED valve
to CAPPED with its report or posts its ask, and the grant opens it or lets it wait, a demand that ends closes it; a
change of the fountain supply is reported, and with it the dry show. TOPUP_CAP_REACHED closes an OPEN valve that has
used up its cap, with its report. TOPUP_CAP_PERIOD_END, once the running second count, with the clock UNSET, has passed
86,400 s from the start of the present cap period, clears the count, closes a CAPPED valve and takes up its demand, and the
next period counts from there; before that second and with the clock set it changes nothing (R102, R104, R105, R108, R124,
R145). That the cap's count and its being reached are two commands (DEDUCED, assumption log 24), that a multiple of 86,400
has passed once the count has reached it and is taken once (DEDUCED, assumption log 25), and that the report gives the cap
in seconds (DEDUCED, assumption log 48), is the model's choice.
That the step reported with SEARCHING is the candidate's is the model's choice (DEDUCED, assumption log 10). -/
def Obligations.LevelsAndTopupCap : Prop :=
  (∀ (s : State) (v l : Nat), l = (if 3000000 ≤ v then 1500 else 1500 * v / 3000000) → ∃ t,
    exec (.levelSample v) s = .next t ∧ s.sameHost t ∧ s.toGarden.sameBeyondBench t.toGarden ∧
    t.toBench.calm = { s.toBench with water := { s.water with
      level := l,
      starved := if l < s.water.cfg.levels.filterLow then true
        else if s.water.cfg.levels.filterLow + 10 ≤ l then false else s.water.starved,
      supplyLow := if l < s.water.cfg.levels.fountainLow then true
        else if s.water.cfg.levels.fountainLow + 10 ≤ l then false else s.water.supplyLow,
      demand := if l < s.water.cfg.levels.fillOn then true
        else if s.water.cfg.levels.fillOff ≤ l then false else s.water.demand } }.calm ∧
    (t.water.starved = true → s.water.filter.state = .searching ∨ s.water.filter.state = .locked ∨
      s.water.filter.state = .backwash ∨ s.water.filter.state = .starved → t.water.filter.state = .starved) ∧
    (t.water.starved = true → s.water.filter.state = .searching ∨ s.water.filter.state = .locked ∨
      s.water.filter.state = .backwash → s.toBench.told t.toBench (.filterState .starved 0 false false none)) ∧
    (t.water.starved = false → s.water.filter.state = .starved → (t.water.filter.state = .searching ∨
        t.water.filter.state = .locked ∨ t.water.filter.state = .fault .noPower) ∧
      s.toBench.told t.toBench (.filterState .searching
        (max s.water.cfg.minStep (s.water.filter.lockedStep.getD s.water.cfg.minStep)) false false none)) ∧
    (t.water.demand = true → s.water.topup = .closed →
      (s.water.cfg.capMinutes * 60 ≤ s.water.capCount → t.water.topup = .capped ∧ (t.load topupLoad).askA = 0 ∧
        s.toBench.told t.toBench (.topupCapped s.water.capCount (s.water.cfg.capMinutes * 60))) ∧
      (s.water.capCount < s.water.cfg.capMinutes * 60 → (t.load topupLoad).askA = s.water.cfg.topupWatts ∧
        ((s.load topupLoad).askA ≠ s.water.cfg.topupWatts → t.water.topup =
          if (t.load topupLoad).askA ≤ (t.load topupLoad).grantA then .opened else .waitPower)) ∧
      ∀ c, s.power.channelOf .topupValve = some c →
        (t.channel c).requested = if t.water.topup = .opened then 1000 else 0) ∧
    (t.water.demand = true → s.water.topup = .capped → t.water.topup = .capped) ∧
    (t.water.demand = false → s.water.topup = .opened ∨ s.water.topup = .waitPower ∨ s.water.topup = .capped →
      t.water.topup = .closed ∧ (t.load topupLoad).askA = 0 ∧
      ∀ c, s.power.channelOf .topupValve = some c → (t.channel c).requested = 0) ∧
    (s.water.topup = .tripped → t.water.topup = .tripped) ∧
    (t.water.demand = false → s.water.topup = .closed → t.water.topup = .closed) ∧
    (s.water.causes = ⟨s.water.supplyLow, false, s.power.fnTripped .fountainPump⟩ → s.water.filter.state ≠ .backwash →
      t.water.supplyLow ≠ s.water.supplyLow →
      t.water.causes = ⟨t.water.supplyLow, false, s.power.fnTripped .fountainPump⟩ ∧
      s.toBench.told t.toBench (.fountainSupply t.water.causes) ∧
      (s.power.fnTripped .fountainPump = false → s.shows.dry = s.water.supplyLow →
        t.shows.dry = t.water.supplyLow ∧ s.toBench.told t.toBench (.showDry t.water.supplyLow)))) ∧
  (∀ s : State, s.water.topup = .opened → s.water.cfg.capMinutes * 60 ≤ s.water.capCount → ∃ t,
    exec .topupCapReached s = .next t ∧ s.sameHost t ∧ s.toGarden.sameBeyondBench t.toGarden ∧
    t.toBench.calm = s.toBench.calm ∧ t.water.topup = .capped ∧
    s.toBench.told t.toBench (.topupCapped s.water.capCount (s.water.cfg.capMinutes * 60))) ∧
  (∀ s : State, s.water.topup ≠ .opened ∨ s.water.capCount < s.water.cfg.capMinutes * 60 →
    exec .topupCapReached s = .next s) ∧
  (∀ (s : State) (x : Nat), s.clock = none → x = s.water.capFrom + 86400 → x ≤ s.time.secs → ∃ t,
    exec .topupCapPeriodEnd s = .next t ∧ s.sameHost t ∧ s.toGarden.sameBeyondBench t.toGarden ∧
    t.toBench.calm = { s.toBench with water := { s.water with capCount := 0, capFrom := x } }.calm ∧
    (s.water.topup = .capped →
      (s.water.demand = false → t.water.topup = .closed ∧ (t.load topupLoad).askA = 0) ∧
      (s.water.demand = true → s.water.cfg.capMinutes = 0 → t.water.topup = .capped ∧
        s.toBench.told t.toBench (.topupCapped 0 0)) ∧
      (s.water.demand = true → s.water.cfg.capMinutes ≠ 0 → s.water.cfg.topupWatts ≠ 0 →
        (t.load topupLoad).askA = s.water.cfg.topupWatts ∧
        t.water.topup = if (t.load topupLoad).askA ≤ (t.load topupLoad).grantA then .opened else .waitPower)) ∧
    (s.water.topup ≠ .capped → s.power.realloc = false →
      t.toGarden = { s.toGarden with water := { s.water with capCount := 0, capFrom := x } })) ∧
  (∀ s : State, s.clock.isSome = true ∨ s.time.secs < s.water.capFrom + 86400 →
    exec .topupCapPeriodEnd s = .next s)

/-- The gate of a trial or a check: SETTLE_EXPIRY and MONITOR_INTERVAL_END open it for 10 s, FLOW_PULSE counts into it,
and outside their phases these change nothing. GATE_CLOSE forms Q and the pressure difference, keeps the result, closes
the gate, and with the third result in a row at no flow makes FAULT (NO_FLOW). A trial's result makes the best step or
looks on, and ends the search as R115 lists it; a check that fails is counted with its kind, and the last one asks for a
backwash or a new search. (The asks that R107 gives a lock, and a gate in SEARCHING or LOCKED, are the invariants of
GrantsAndLampsBounded.) A grant to a lock limits its pump to the steps it covers, restores it, or faults it; a trial
whose grant falls short locks power-limited. A grant that covers the minimum step takes FAULT (NO_POWER) back to a
search, or to STARVED; a grant below it ends a running backwash in FAULT (NO_POWER), with its end noted, the drain
started, the supply's cause gone and the reports (R14, R106, R107, R109, R113, R114, R115, R116, R117, R118, R119, R120,
R122, R124). That an expiry acts only once the running time reaches it within the present second, and moves up to it, is
the model's choice (assumption log 1), as is the phase expiry that is absent in GATING (assumption log 67), the lock
that a trial passes through where its grant falls below the minimum step (assumption log 47) and the fault that comes
before the third result at no flow is taken (DEDUCED, assumption log 22).
That the step reported with SEARCHING is the candidate's is the model's choice (DEDUCED, assumption log 10). -/
def Obligations.GatesOpenCountAndClose : Prop :=
  (∀ (s : State) (r : Search) (x : Nat), s.water.filter.state = .searching → s.water.filter.search = some r →
    r.phase = .settling → r.expiry = some x → x / 1000 ≤ s.time.secs → ∃ t, exec .settleExpiry s = .next t ∧ s.sameHost t ∧
    s.toGarden.sameBeyondBench t.toGarden ∧ t.time = s.time.reach x ∧ t.water = { s.water with filter :=
      { s.water.filter with search := some { r with phase := .gating, expiry := none }, gate := some ⟨0, t.now + 10000⟩ } } ∧
    t.toBench.calm = { s.toBench with time := t.time }.calm) ∧
  (∀ s : State, s.water.filter.state ≠ .searching ∨ (∀ r ∈ s.water.filter.search, r.phase = .settling →
    ∀ x ∈ r.expiry, s.time.secs < x / 1000) → exec .settleExpiry s = .next s) ∧
  (∀ (s : State) (x : Nat), s.water.filter.state = .locked → s.water.filter.monitor = some x → x / 1000 ≤ s.time.secs →
    ∃ t, exec .monitorIntervalEnd s = .next t ∧ s.sameHost t ∧ s.toGarden.sameBeyondBench t.toGarden ∧
    t.time = s.time.reach x ∧ t.water = { s.water with filter :=
      { s.water.filter with monitor := none, gate := some ⟨0, t.now + 10000⟩ } } ∧
    t.toBench.calm = { s.toBench with time := t.time }.calm) ∧
  (∀ s : State, s.water.filter.state ≠ .locked ∨ (∀ x ∈ s.water.filter.monitor, s.time.secs < x / 1000) →
    exec .monitorIntervalEnd s = .next s) ∧
  (∀ (s : State) (gt : Gate), s.water.filter.gate = some gt → exec .flowPulse s = .next
    { s with water := { s.water with filter := { s.water.filter with
      gate := some ⟨if gt.pulses < 65535 then gt.pulses + 1 else gt.pulses, gt.closes⟩ } } }) ∧
  (∀ s : State, s.water.filter.gate = none → exec .flowPulse s = .next s) ∧
  (∀ (s : State) (gt : Gate) (pre post q a b : Nat), s.water.filter.gate = some gt → gt.closes / 1000 ≤ s.time.secs →
    a = (if 3000000 ≤ pre then 4000 else 4000 * pre / 3000000) →
    b = (if 3000000 ≤ post then 4000 else 4000 * post / 3000000) →
    q = min 65535 (gt.pulses * 6000 / s.water.cfg.filter.k100) → ∃ t, exec (.gateClose pre post) s = .next t ∧
    s.sameHost t ∧ t.water.filter.lastGate = some ⟨gt.pulses, q, a, b, a - b⟩ ∧ t.water.filter.gate = none ∧
    t.mode = s.mode ∧ t.time = s.time.reach gt.closes ∧ t.water.cfg = s.water.cfg ∧ t.shows.calm = s.shows.calm ∧
    t.power.calm = s.power.calm ∧ t.field.steady = s.field.steady ∧ t.planner.steady = s.planner.steady ∧
    (q = 0 → s.water.cfg.minStep ≤ s.water.filter.step → 2 ≤ s.water.filter.zeroFlow →
      t.water.filter.state = .fault .noFlow ∧
      (s.water.filter.state = .searching ∨ s.water.filter.state = .locked →
        s.toBench.told t.toBench (.filterState (.fault .noFlow) 0 false false none))) ∧
    (q ≠ 0 → s.water.filter.state = .locked → b + s.water.cfg.filter.dpClog ≥ a →
      (s.water.filter.powerLimited = true ∨ s.water.cfg.filter.qMin ≤ q) → t.water.filter.failing = 0) ∧
    (∀ kind : CheckKind, q ≠ 0 → s.water.filter.state = .locked →
      (kind = .clog ↔ b + s.water.cfg.filter.dpClog < a) →
      (kind = .flow → s.water.filter.powerLimited = false ∧ q < s.water.cfg.filter.qMin) →
      (s.water.filter.failing + 1 < s.water.cfg.filter.confirmCount → s.power.realloc = false →
        t.water.filter = { s.water.filter with
          gate := none, lastGate := t.water.filter.lastGate, zeroFlow := 0, failing := s.water.filter.failing + 1,
          failKind := some kind, monitor := some (t.now + s.water.cfg.filter.monitorInterval * 1000) }) ∧
      (s.water.cfg.filter.confirmCount ≤ s.water.filter.failing + 1 → kind = .flow →
        t.water.filter.state = .searching ∨ t.water.filter.state = .locked ∨ t.water.filter.state = .fault .noPower) ∧
      (s.water.cfg.filter.confirmCount ≤ s.water.filter.failing + 1 → kind = .clog →
        t.water.filter.backwashCause = some .clog ∧ t.water.filter.failKind = some .clog ∧
        ((s.load filterLoad).askA = s.water.cfg.watts s.water.cfg.minStep →
          t.water.filter.state = .backwash ∨ t.water.filter.state = .fault .clogPersists ∨
          t.water.filter.state = .fault .channelTrip ∨ t.water.filter.state = .fault .noPower)))) ∧
  (∀ (s : State) (pre post : Nat), (∀ gt ∈ s.water.filter.gate, s.time.secs < gt.closes / 1000) →
    exec (.gateClose pre post) s = .next s) ∧
  (∀ (b t : Bench) (r : Search) (fom best : Int) (beats : Bool) (step look : Nat), t = b.takeTrial r fom →
    b.water.filter.state = .searching → b.water.filter.powerLimited = false → b.water.filter.marginal = false →
    beats = (r.bestStep.isNone || decide (r.bestFom.getD 0 < fom)) →
    step = (if beats = true then r.candidate else r.bestStep.getD r.startStep) →
    best = (if beats = true then fom else r.bestFom.getD 0) →
    look = (if r.bestStep = none then r.look else if beats = true then 0 else r.look + 1) →
    (r.candidate = 16 ∨ (beats = false ∧ b.water.cfg.filter.lookBeyond ≤ look) →
      t.water.filter.state = .locked ∧ t.water.filter.step = step ∧ t.water.filter.lockedStep = some step ∧
      t.water.filter.lockFom = some best ∧ t.water.filter.powerLimited = false ∧ t.water.filter.failing = 0 ∧
      t.water.filter.marginal = decide (best < 0) ∧ t.water.filter.search = none ∧
      t.water.filter.monitor = some (b.now + b.water.cfg.filter.monitorInterval * 1000) ∧
      (t.load filterLoad).askB = b.water.cfg.watts step - b.water.cfg.watts b.water.cfg.minStep ∧
      b.told t (.filterState .locked step false (decide (best < 0)) (some best)) ∧
      (best < 0 → b.told t (.filterMarginal step best))) ∧
    (r.candidate ≠ 16 → beats = true ∨ look < b.water.cfg.filter.lookBeyond → t.water.filter = { b.water.filter with
      search := some { r with
        candidate := r.candidate + 1, phase := .raising, expiry := none, trials := r.trials + 1, look := look,
        bestStep := if beats = true then some r.candidate else r.bestStep,
        bestFom := if beats = true then some fom else r.bestFom } })) ∧
  (∀ (b t : Bench) (w : Nat → Nat) (step grant : Nat), t = b.filterGrant → w = b.water.cfg.watts →
    step = b.water.filter.lockedStep.getD b.water.cfg.minStep →
    grant = (b.load filterLoad).grantA + (b.load filterLoad).grantB → b.water.filter.state = .locked →
    (grant < w b.water.cfg.minStep → t.water.filter = b.water.filter.halted (.fault .noPower) ∧
      b.told t (.filterState (.fault .noPower) 0 false false none)) ∧
    (b.water.filter.limit = none → w b.water.cfg.minStep ≤ grant → w step ≤ grant → t = b) ∧
    (b.water.filter.limit = none → b.water.filter.powerLimited = false → w b.water.cfg.minStep ≤ grant →
      grant < w step → t.water.filter = { b.water.filter with
        powerLimited := true, limit := some ⟨step, .lock⟩, step := t.water.filter.step } ∧
      b.told t (.filterState .locked t.water.filter.step true b.water.filter.marginal b.water.filter.lockFom)) ∧
    (∀ x ∈ b.water.filter.limit, w b.water.cfg.minStep ≤ grant → w x.step ≤ grant →
      (x.origin = .lock → t.water.filter = { b.water.filter with powerLimited := false, limit := none, step := step }) ∧
      (x.origin = .search → t.water.filter.state = .searching ∧ t.water.filter.limit = none)) ∧
    (∀ x ∈ b.water.filter.limit, w b.water.cfg.minStep ≤ grant → grant < w x.step →
      t.water.filter = { b.water.filter with step := t.water.filter.step }) ∧
    ((∀ x ∈ b.water.filter.limit, grant < w x.step) → (b.water.filter.limit = none → grant < w step) →
      w b.water.cfg.minStep ≤ grant → w t.water.filter.step ≤ grant ∧
      ∀ n, t.water.filter.step < n → n ≤ step → grant < w n)) ∧
  (∀ (b t : Bench) (r : Search) (step : Nat), t = b.filterGrant → b.water.filter.state = .searching →
    b.water.filter.search = some r → step = r.bestStep.getD r.startStep →
    (b.water.cfg.watts r.candidate ≤ b.filterGranted → r.phase = .raising →
      t.water.filter = { b.water.filter with
        step := r.candidate, search := some { r with
          phase := .settling, expiry := some (b.now + b.water.cfg.filter.settleTime * 1000) } }) ∧
    (b.water.cfg.watts r.candidate ≤ b.filterGranted → r.phase ≠ .raising → t = b) ∧
    (b.filterGranted < b.water.cfg.watts r.candidate → b.water.cfg.watts b.water.cfg.minStep ≤ b.filterGranted →
      t.water.filter.state = .locked ∧ t.water.filter.lockedStep = some step ∧ t.water.filter.powerLimited = true ∧
      t.water.filter.limit = some ⟨r.candidate, .search⟩ ∧ t.water.filter.lockFom = r.bestFom ∧
      (∀ x ∈ r.bestFom, x < 0 → b.told t (.filterMarginal step x))) ∧
    (b.filterGranted < b.water.cfg.watts r.candidate → b.filterGranted < b.water.cfg.watts b.water.cfg.minStep →
      t.water.filter.state = .fault .noPower)) ∧
  (∀ (b t : Bench) (low n : Nat), t = b.filterGrant → low = b.water.cfg.watts b.water.cfg.minStep →
    n = max b.water.cfg.minStep (b.water.filter.lockedStep.getD b.water.cfg.minStep) →
    b.water.filter.state = .fault .noPower →
    ((b.load filterLoad).grantA < low → t = b) ∧
    (low ≤ (b.load filterLoad).grantA → b.water.starved = true → t.water.filter = { b.water.filter with
        state := .starved, step := 0, powerLimited := false, marginal := false, limit := none, lockFom := none,
        search := none, monitor := none, gate := none, zeroFlow := 0, backwashExpiry := none } ∧
      (t.load filterLoad).askA = 0 ∧ (t.load filterLoad).askB = 0 ∧
      b.told t (.filterState .starved 0 false false none)) ∧
    (low ≤ (b.load filterLoad).grantA → b.water.starved = false → t.water.filter = { b.water.filter with
        state := .searching, powerLimited := false, marginal := false, limit := none, lockFom := none, monitor := none,
        gate := none, backwashExpiry := none, search := some ⟨n, n, .raising, none, none, 0, 0, none⟩ } ∧
      (t.load filterLoad).askA = low ∧ (t.load filterLoad).askB = b.water.cfg.watts n - low ∧
      b.told t (.filterState .searching n false false none))) ∧
  (∀ (b t : Bench) (low : Nat), t = b.filterGrant → low = b.water.cfg.watts b.water.cfg.minStep →
    b.water.filter.state = .backwash →
    (low ≤ b.filterGranted → t = b) ∧
    (b.filterGranted < low → t.water.filter = { b.water.filter with
        state := .fault .noPower, step := 0, powerLimited := false, marginal := false, limit := none, lockFom := none,
        search := none, monitor := none, gate := none, zeroFlow := 0, backwashExpiry := none,
        lastBackwashEnd := some b.now } ∧
      (t.load filterLoad).askA = low ∧ (t.load filterLoad).askB = 0 ∧
      b.told t (.filterState (.fault .noPower) 0 false false none) ∧
      t.water.causes = ⟨b.water.supplyLow, false, b.power.fnTripped .fountainPump⟩ ∧
      (b.water.causes ≠ t.water.causes → b.told t (.fountainSupply t.water.causes)) ∧
      ∀ z, (t.ground.zone z).dischargeMark = match (b.ground.zone z).dischargeMark with
        | .held => .drying (b.now + b.water.cfg.filter.drainTime * 60000)
        | .drying e => .drying e
        | .absent => .absent))

/-- The figure of merit of a gate result (R110): each margin is divided with truncation toward zero and clamped to
−1,000..1,000, and the merit type picks the smaller, the flow or the pressure margin. -/
def Obligations.FigureOfMeritFormed : Prop :=
  ∀ (c : FilterCfg) (r : GateResult) (sf sp : Int),
    sf = max (-1000) (min 1000 ((((r.q : Int) - c.qMin) * 1000).tdiv c.qMin)) →
    sp = max (-1000) (min 1000 ((((c.dpMax : Int) - r.dp) * 1000).tdiv c.dpMax)) →
    (c.merit = .both → figureOfMerit c r = if sf ≤ sp then sf else sp) ∧
    (c.merit = .flow → figureOfMerit c r = sf) ∧
    (c.merit = .pressure → figureOfMerit c r = sp)

/-! ### Show Engine -/

/-- SHOW_SET writes the clamped settings and recomputes the wind factor from the latest wind, unless the wind is silent
or absent. SHOW_APPEND places its steps behind the ring's, or is refused: BAD_BODY, FAULTED, or FULL with the free
count. In the same step it begins the scene that a RUNNING engine waits for, with its circuits joined at LU's outputs,
or faults the show where 65 steps hold no END or the head is no SCENE; otherwise it starts nothing. The height chain of
every nozzle: the height after wind, the splash mark asked for above the threshold and dropped at it, the cap of the
fountain grant, the fountain ask, and the levels of the nozzle and of the pump; no effective height stands above its
commanded one, and it is 0 while the supply is WITHHELD (R11, R12, R128, R129, R133, R134, R138, R139, R142, R143, R144,
R145, R146). That SHOW_APPEND tells the free count as it is before the test at the boundary is the model's choice
(assumption log 58).
That an unknown step kind is refused before a FAULTED engine is (DESIGN CHOICE, assumption log 84) and that LU is
handed every owned circuit's level as a scene begins (DESIGN CHOICE, assumption log 85) is the model's choice. -/
def Obligations.ShowSettingsAndSteps : Prop :=
  (∀ (s : State) (q : ShowSet) (c : ShowCfg), s.takes (.showSet (.fields q)) →
    c = ⟨min 599 q.calm, max 1 (min 600 q.cutoff), nmap (fun n => min 1000 n.splashThreshold) q.nozzles,
      nmap (fun n => max 1 (min 60 n.dryOffMinutes)) q.nozzles⟩ →
    (c.cutoff ≤ c.calm → exec (.showSet (.fields q)) s = .next (s.answer s.toGarden (.refused .inconsistent []))) ∧
    (c.calm < c.cutoff → ∃ t, exec (.showSet (.fields q)) s = .next t ∧ s.replied t (.accepted c.fields) ∧
      s.toGarden.sameBeyondBench t.toGarden ∧ t.toBench.calm = { s.toBench with shows := { s.shows with
        cfg := c,
        windFactor := match s.shows.wind with
          | some v => if s.shows.windSilent = true then s.shows.windFactor else windFactorOf c v
          | none => s.shows.windFactor } }.calm)) ∧
  (∀ (s : State) (l : List ShowStep), s.takes (.showAppend (.fields l)) →
    (l = [] ∨ 24 < l.length ∨ (∃ k, .unknown k ∈ l) → exec (.showAppend (.fields l)) s = .next
      (s.answer s.toGarden (.refused .badBody []))) ∧
    (l ≠ [] → l.length ≤ 24 → (∀ k, .unknown k ∉ l) →
      (s.shows.engine = .faulted → exec (.showAppend (.fields l)) s = .next
        (s.answer s.toGarden (.refused .faulted []))) ∧
      (s.shows.engine ≠ .faulted → 512 - s.shows.steps.length < l.length → exec (.showAppend (.fields l)) s = .next
        (s.answer s.toGarden (.refused .full [u2 (512 - s.shows.steps.length)]))) ∧
      (s.shows.engine ≠ .faulted → l.length ≤ 512 - s.shows.steps.length →
        s.shows.engine ≠ .running ∨ s.shows.scene.isSome = true ∨ (s.shows.steps.length + l.length < 65 ∧
          .sceneEnd ∉ s.shows.steps ++ l) →
        exec (.showAppend (.fields l)) s = .next
          (s.answer { s.toGarden with shows := { s.shows with steps := s.shows.steps ++ l } }
            (.accepted [u2 (512 - (s.shows.steps.length + l.length))]))))) ∧
  (∀ (s : State) (l ring : List ShowStep), s.takes (.showAppend (.fields l)) → l ≠ [] → l.length ≤ 24 →
    (∀ k, .unknown k ∉ l) → l.length ≤ 512 - s.shows.steps.length → s.shows.engine = .running → s.shows.scene = none →
    ring = s.shows.steps ++ l →
    (∀ set ms rest, ring = .scene set :: .wait ms :: rest → .sceneEnd ∈ rest.take 63 → ∃ t,
      exec (.showAppend (.fields l)) s = .next t ∧ s.replied t (.accepted [u2 (512 - ring.length)]) ∧
      s.sceneBegun t s.shows.head ring set ms) ∧
    (65 ≤ ring.length → .sceneEnd ∉ ring.take 65 → ∃ t,
      exec (.showAppend (.fields l)) s = .next t ∧ s.replied t (.accepted [u2 (512 - ring.length)]) ∧
      State.faultsShow { s with shows := { s.shows with steps := ring } } t .sceneTooLong 0) ∧
    (∀ x rest, ring = x :: rest → (∀ set, x ≠ .scene set) → .sceneEnd ∈ ring.take 65 → ∃ t,
      exec (.showAppend (.fields l)) s = .next t ∧ s.replied t (.accepted [u2 (512 - ring.length)]) ∧
      State.faultsShow { s with shows := { s.shows with steps := ring } } t .badStep 0)) ∧
  (∀ (c : ShowCfg) (v : Nat), (v ≤ c.calm → windFactorOf c v = 1000) ∧
    (c.calm < v → c.cutoff ≤ v → windFactorOf c v = 0) ∧
    (c.calm < v → v < c.cutoff → windFactorOf c v = 1000 * (c.cutoff - v) / (c.cutoff - c.calm))) ∧
  (∀ (b t : Bench) (n : Nozzle) (value h1 hs : Nat) (held : Bool) (h : Heights), t = b.fountainGrant →
    value = (nget b.shows.ctx.nozzles n).value → h1 = value * b.shows.windFactor / 1000 →
    hs = nget b.shows.cfg.threshold n → held = nget b.shows.held n → h = nget t.shows.heights n →
    t.calm = b.calm ∧ h.h1 = h1 ∧ h.h3 = min h.h2 ((b.load fountainLoad).grantA * 1000 / b.water.cfg.fullWatts) ∧
    h.e = (if b.withheld = true ∨ b.power.fnTripped (.nozzle n) = true then 0 else h.h3) ∧
    (b.shows.windFactor ≤ 1000 → h.e ≤ value) ∧
    (h1 ≤ hs → nget t.shows.held n = false ∧ h.h2 = h1 ∧ ∀ z, (b.ground.zone z).mark (.nozzle n) = .held → held = true →
      (t.ground.zone z).mark (.nozzle n) = .drying (b.now + nget b.shows.cfg.dryOff n * 60000)) ∧
    (hs < h1 → held = true ∨ b.ground.splashGranted n = true → nget t.shows.held n = true ∧ h.h2 = h1) ∧
    (hs < h1 → held = false → b.ground.splashGranted n = true → ∀ z, (b.ground.zone z).cfg.splash = some n →
      (t.ground.zone z).mark (.nozzle n) = .held) ∧
    (hs < h1 → held = false → b.ground.splashGranted n = false → nget t.shows.held n = false ∧ h.h2 = hs) ∧
    (∀ c, b.power.channelOf (.nozzle n) = some c → (t.channel c).requested = h.e)) ∧
  (∀ (b t : Bench) (asked : Nozzle → Nat) (e : Nozzle → Nat), t = b.fountainGrant →
    (∀ n, asked n = (if b.power.fnTripped (.nozzle n) = true then 0 else (nget t.shows.heights n).h2)) →
    (∀ n, e n = (nget t.shows.heights n).e) →
    (t.load fountainLoad).askA = (b.water.cfg.fullWatts *
      max (max (asked .n1) (asked .n2)) (max (asked .n3) (asked .n4)) + 999) / 1000 ∧
    ∀ c, b.power.channelOf .fountainPump = some c → (t.channel c).requested =
      if b.withheld = true then 0 else max (max (e .n1) (e .n2)) (max (e .n3) (e .n4)))

/-- SHOW_PAUSE, SHOW_RESUME, SHOW_START and SHOW_RESET by state: PAUSED and back without any other change, or with the
test at the boundary where the engine waits there; a start that plays the scene at the head up to its WAIT, its circuits
joined at LU's outputs and shown to LU; a head that is no SCENE, and a scene with no END within 65 steps, fault the show
and post SHOW_FAULT; a reset that empties ring, context, owned set and stack, drops every splash mark and idles (R133,
R134, R135, R138, R139, R140, R141). That a head that is no SCENE faults as such where no END stands within 65 steps
either is the model's choice (assumption log 78).
That LU is handed every owned circuit's level as a scene begins is the model's choice (DESIGN CHOICE, assumption log
85). -/
def Obligations.ShowPlayedByState : Prop :=
  (∀ s : State, s.takes (.showPause (.fields ())) →
    (s.shows.engine = .running → exec (.showPause (.fields ())) s = .next
      (s.answer { s.toGarden with shows := { s.shows with engine := .paused } } (.accepted []))) ∧
    (s.shows.engine = .paused → exec (.showPause (.fields ())) s = .next (s.answer s.toGarden (.accepted []))) ∧
    (s.shows.engine = .idle → exec (.showPause (.fields ())) s = .next
      (s.answer s.toGarden (.refused .inconsistent []))) ∧
    (s.shows.engine = .faulted → exec (.showPause (.fields ())) s = .next
      (s.answer s.toGarden (.refused .faulted [])))) ∧
  (∀ s : State, s.takes (.showResume (.fields ())) →
    (s.shows.engine = .paused → s.shows.scene.isSome = true ∨
        (s.shows.steps.length < 65 ∧ .sceneEnd ∉ s.shows.steps) → exec (.showResume (.fields ())) s = .next
      (s.answer { s.toGarden with shows := { s.shows with engine := .running } } (.accepted []))) ∧
    (s.shows.engine = .paused → s.shows.scene = none →
      (∀ set ms rest, s.shows.steps = .scene set :: .wait ms :: rest → .sceneEnd ∈ rest.take 63 → ∃ t,
        exec (.showResume (.fields ())) s = .next t ∧ s.replied t (.accepted []) ∧
        s.sceneBegun t s.shows.head s.shows.steps set ms) ∧
      (65 ≤ s.shows.steps.length → .sceneEnd ∉ s.shows.steps.take 65 → ∃ t,
        exec (.showResume (.fields ())) s = .next t ∧ s.replied t (.accepted []) ∧ s.faultsShow t .sceneTooLong 0) ∧
      (∀ x rest, s.shows.steps = x :: rest → (∀ set, x ≠ .scene set) → .sceneEnd ∈ s.shows.steps.take 65 → ∃ t,
        exec (.showResume (.fields ())) s = .next t ∧ s.replied t (.accepted []) ∧ s.faultsShow t .badStep 0)) ∧
    (s.shows.engine = .running → exec (.showResume (.fields ())) s = .next (s.answer s.toGarden (.accepted []))) ∧
    (s.shows.engine = .idle → exec (.showResume (.fields ())) s = .next
      (s.answer s.toGarden (.refused .inconsistent []))) ∧
    (s.shows.engine = .faulted → exec (.showResume (.fields ())) s = .next
      (s.answer s.toGarden (.refused .faulted [])))) ∧
  (∀ s : State, s.takes (.showStart (.fields ())) →
    (s.shows.engine = .faulted → exec (.showStart (.fields ())) s = .next
      (s.answer s.toGarden (.refused .faulted []))) ∧
    (s.shows.engine = .running ∨ s.shows.engine = .paused ∨ (s.shows.engine = .idle ∧ .sceneEnd ∉ s.shows.steps) →
      exec (.showStart (.fields ())) s = .next (s.answer s.toGarden (.refused .inconsistent []))) ∧
    (s.shows.engine = .idle →
      (∀ set ms rest, s.shows.steps = .scene set :: .wait ms :: rest → .sceneEnd ∈ rest.take 63 → ∃ t,
        exec (.showStart (.fields ())) s = .next t ∧ s.replied t (.accepted [u1 2]) ∧
        s.sceneBegun t s.shows.head s.shows.steps set ms) ∧
      (∀ x rest, s.shows.steps = x :: rest → (∀ set, x ≠ .scene set) → .sceneEnd ∈ s.shows.steps → ∃ t,
        exec (.showStart (.fields ())) s = .next t ∧ s.replied t (.accepted [u1 4]) ∧ s.faultsShow t .badStep 0) ∧
      (∀ set rest, s.shows.steps = .scene set :: rest → .sceneEnd ∈ s.shows.steps → .sceneEnd ∉ rest.take 64 → ∃ t,
        exec (.showStart (.fields ())) s = .next t ∧ s.replied t (.accepted [u1 4]) ∧
        s.faultsShow t .sceneTooLong 0))) ∧
  (∀ s : State, s.takes (.showReset (.fields ())) → ∃ t, exec (.showReset (.fields ())) s = .next t ∧
    s.replied t (.accepted [u1 1]) ∧ s.toGarden.sameBeyondBench t.toGarden ∧
    t.shows.calm = { s.shows.calm with
      engine := .idle, head := 0, steps := [], scene := none, stack := [], ctx := ShowContext.start } ∧
    t.shows.held = ⟨false, false, false, false⟩ ∧
    (∀ z n, (t.ground.zone z).mark (.nozzle n) ≠ .held) ∧
    t.toBench.calm = { s.toBench with shows := t.shows, lights := t.lights }.calm)

/-- SHOW_TICK moves every ramp by one tick and a running WAIT's count down while show time advances, hands LU the owned
circuits' levels, computes every nozzle's height chain afresh from the new values, unless the tick brings WAIT_END, and
leaves the rest of the show; the value of a ramp after k of its N ticks is cut toward its start. At a WAIT that has run out
WAIT_END plays on: each kind of step up to the next WAIT with its effect on nozzles, owned circuits, default ramp, stack,
mark and loop counter; a step that fails faults the show at its position with its cause, and two REPEATs that run for ever
fault it RUNAWAY; an END frees its scene and begins the next one, waits for it, faults, or runs the show down. WIND_SILENT
caps the wind factor at 500 once in each silence (R131, R132, R133, R134, R135, R136, R137, R139, R142, R143, R144, R145).
That a tick leaves a WAIT at 0 to WAIT_END is the model's reading (DEDUCED, assumption logs 13 and 24), as is a silence
counted in whole seconds and its onset taken once (assumption log 26); that a head that is no SCENE faults BAD_STEP where
no END stands within 65 steps either is the model's choice (DESIGN CHOICE, assumption log 78).
That LU is handed every owned circuit's level at each step and as a scene begins is the model's choice (DESIGN
CHOICE, assumption log 85). -/
def Obligations.ShowTimePasses : Prop :=
  (∀ s : State, ∃ t, exec .showTick s = .next t ∧ s.sameHost t ∧ s.toGarden.sameBeyondBench t.toGarden ∧
    (s.shows.engine = .running ∨ (s.shows.engine = .idle ∧ ∃ n, (nget s.shows.ctx.nozzles n).ramp.isSome = true) →
      t.shows.calm = { s.shows.calm with
        ctx := s.shows.ctx.advance,
        scene := s.shows.scene.map (fun x => { x with wait := x.wait.map (fun n => n - 1) }) }) ∧
    (s.shows.engine = .paused ∨ s.shows.engine = .faulted ∨
      (s.shows.engine = .idle ∧ ∀ n, (nget s.shows.ctx.nozzles n).ramp = none) → t.shows.calm = s.shows.calm) ∧
    (∀ (n : Nozzle) (h1 hs : Nat) (h : Heights), h1 = (nget t.shows.ctx.nozzles n).value * s.shows.windFactor / 1000 →
      hs = nget s.shows.cfg.threshold n → h = nget t.shows.heights n → (s.load fountainLoad).asked = false →
      ¬ (s.shows.engine = .running ∧ ∃ x, s.shows.scene = some x ∧ (x.wait = some 0 ∨ x.wait = some 1)) → h.h1 = h1 ∧
      h.h2 = (if nget t.shows.held n = true then h1 else min h1 hs) ∧ (h1 ≤ hs → nget t.shows.held n = false) ∧
      h.h3 = min h.h2 ((t.load fountainLoad).grantA * 1000 / s.water.cfg.fullWatts) ∧
      h.e = (if t.withheld = true ∨ s.power.fnTripped (.nozzle n) = true then 0 else h.h3) ∧
      ∀ c, s.power.channelOf (.nozzle n) = some c → (t.channel c).requested = h.e) ∧
    { t.lights with circuits := s.lights.circuits } = s.lights ∧
    (∀ c, (∀ o ∈ s.shows.ctx.owned, o.circuit ≠ c) → (t.lamp c).calm = (s.lamp c).calm) ∧
    ((s.shows.ctx.owned.map Owned.circuit).Nodup → ∀ o ∈ t.shows.ctx.owned,
      (t.lamp o.circuit).calm = { s.lamp o.circuit with shows := some o.level.value }.calm) ∧
    t.toBench.calm = { s.toBench with shows := t.shows, lights := t.lights }.calm) ∧
  (∀ (r : Ramped) (p : Ramp), r.ramp = some p →
    (p.done + 1 < p.ticks → r.advance = ⟨((p.start : Int) +
        (((r.target : Int) - p.start) * (p.done + 1 : Nat)).tdiv p.ticks).toNat, r.target,
      some ⟨p.start, p.ticks, p.done + 1⟩⟩) ∧
    (p.ticks ≤ p.done + 1 → r.advance = ⟨r.target, r.target, none⟩)) ∧
  (∀ (r : Ramped) (target ms : Nat), r.start target 0 = ⟨target, target, none⟩ ∧
    (0 < ms → r.start target ms = ⟨r.value, target, some ⟨r.value, (ms + 49) / 50, 0⟩⟩)) ∧
  (∀ (x copy : ShowContext) (y : ShowContext), y = x.restoreFrom copy → y.defaultRamp = copy.defaultRamp ∧
    (∀ n, nget y.nozzles n = (nget x.nozzles n).start (nget copy.nozzles n).target copy.defaultRamp) ∧
    y.owned.map Owned.circuit = x.owned.map Owned.circuit ∧
    (∀ o ∈ x.owned, ∀ p ∈ copy.owned, p.circuit = o.circuit → (copy.owned.map Owned.circuit).Nodup →
      ⟨o.circuit, o.level.start p.level.target copy.defaultRamp⟩ ∈ y.owned)) ∧
  (∀ (s : State) (x : Scene) (ms : Nat), s.shows.engine = .running → s.shows.scene = some x → x.wait = some 0 →
    s.shows.steps[x.next]? = some (.wait ms) → ∃ t, exec .waitEnd s = .next t ∧ s.sameHost t ∧
      s.toGarden.sameBeyondBench t.toGarden ∧ t.toBench.calm = { s.toBench with shows := { s.shows with
        scene := some { x with next := x.next + 1, wait := some ((max 50 (min 600000 ms) + 49) / 50) } } }.calm) ∧
  (∀ (s : State) (x done : Scene) (step : ShowStep) (ms : Nat), s.shows.engine = .running → s.shows.scene = some x →
    x.wait = some 0 → s.shows.steps[x.next]? = some step → s.shows.steps[x.next + 1]? = some (.wait ms) →
    done = ⟨x.next + 2, some ((max 50 (min 600000 ms) + 49) / 50), x.mark, x.loop⟩ →
    (∀ k target ramp n, step = .nozzle k target ramp → nozzleOf? k = some n → ∃ t, exec .waitEnd s = .next t ∧
      s.sameHost t ∧ s.playsTo t { s.shows with scene := some done, ctx := { s.shows.ctx with
        nozzles := nput s.shows.ctx.nozzles n ((nget s.shows.ctx.nozzles n).start (min 1000 target)
          (match ramp with | some r => min 60000 r | none => s.shows.ctx.defaultRamp)) } }) ∧
    (∀ c target ramp, step = .light c target ramp → (∃ o ∈ s.shows.ctx.owned, o.circuit.val + 1 = c) → ∃ t,
      exec .waitEnd s = .next t ∧ s.sameHost t ∧ s.playsTo t { s.shows with scene := some done, ctx := { s.shows.ctx with
        owned := s.shows.ctx.owned.map (fun o => if o.circuit.val + 1 = c then ⟨o.circuit, o.level.start (min 1000 target)
          (match ramp with | some r => min 60000 r | none => s.shows.ctx.defaultRamp)⟩ else o) } } ∧
      ((s.shows.ctx.owned.map Owned.circuit).Nodup →
        ∀ o ∈ t.shows.ctx.owned, (t.lamp o.circuit).shows = some o.level.value)) ∧
    (∀ r, step = .rampDefault r → ∃ t, exec .waitEnd s = .next t ∧ s.sameHost t ∧ s.playsTo t { s.shows with
      scene := some done, ctx := { s.shows.ctx with defaultRamp := min 60000 r } }) ∧
    (step = .save → s.shows.stack.length < 4 → ∃ t, exec .waitEnd s = .next t ∧ s.sameHost t ∧ s.playsTo t { s.shows with
      scene := some done, stack := s.shows.ctx :: s.shows.stack }) ∧
    (∀ copy l, step = .restore → s.shows.stack = copy :: l → ∃ t, exec .waitEnd s = .next t ∧ s.sameHost t ∧
      s.playsTo t { s.shows with scene := some done, stack := l, ctx := s.shows.ctx.restoreFrom copy }) ∧
    (step = .mark → ∃ t, exec .waitEnd s = .next t ∧ s.sameHost t ∧ s.playsTo t { s.shows with
      scene := some { done with mark := some (x.next + 1) } }) ∧
    (∀ count m, step = .repeatLoop count → x.mark = some m → x.loop = some 0 → ∃ t, exec .waitEnd s = .next t ∧
      s.sameHost t ∧ s.playsTo t { s.shows with scene := some { done with loop := none } })) ∧
  (∀ (s : State) (x : Scene) (count m k ms : Nat), s.shows.engine = .running → s.shows.scene = some x →
    x.wait = some 0 → s.shows.steps[x.next]? = some (.repeatLoop count) → x.mark = some m →
    0 < x.loop.getD (max 1 (min 255 count)) → k = x.loop.getD (max 1 (min 255 count)) - 1 →
    s.shows.steps[m]? = some (.wait ms) → ∃ t,
    exec .waitEnd s = .next t ∧ s.sameHost t ∧ s.playsTo t { s.shows with
      scene := some ⟨m + 1, some ((max 50 (min 600000 ms) + 49) / 50), some m, some k⟩ }) ∧
  (∀ (s : State) (x : Scene) (step : ShowStep), s.shows.engine = .running → s.shows.scene = some x →
    x.wait = some 0 → s.shows.steps[x.next]? = some step →
    ((∃ set, step = .scene set) ∨ (∃ k target ramp, step = .nozzle k target ramp ∧ nozzleOf? k = none) ∨
        (∃ c target ramp, step = .light c target ramp ∧ ∀ o ∈ s.shows.ctx.owned, o.circuit.val + 1 ≠ c) → ∃ t,
      exec .waitEnd s = .next t ∧ s.sameHost t ∧ s.faultsShow t .badStep x.next) ∧
    (step = .save → 4 ≤ s.shows.stack.length → ∃ t, exec .waitEnd s = .next t ∧ s.sameHost t ∧
      s.faultsShow t .stackOver x.next) ∧
    (step = .restore → s.shows.stack = [] → ∃ t, exec .waitEnd s = .next t ∧ s.sameHost t ∧
      s.faultsShow t .stackUnder x.next) ∧
    (∀ count, step = .repeatLoop count → x.mark = none → ∃ t, exec .waitEnd s = .next t ∧ s.sameHost t ∧
      s.faultsShow t .repeatWithoutMark x.next) ∧
    (∀ a b, step = .repeatLoop a → s.shows.steps[x.next + 1]? = some (.repeatLoop b) → x.mark = some x.next → ∃ t,
      exec .waitEnd s = .next t ∧ s.sameHost t ∧
      (s.faultsShow t .runaway x.next ∨ s.faultsShow t .runaway (x.next + 1)))) ∧
  (∀ (s : State) (x : Scene) (rest : List ShowStep) (freed : ShowUnit), s.shows.engine = .running →
    s.shows.scene = some x → x.wait = some 0 → s.shows.steps[x.next]? = some .sceneEnd →
    rest = s.shows.steps.drop (x.next + 1) →
    freed = { s.shows with head := (s.shows.head + x.next + 1) % 512, steps := rest, stack := [], scene := none } →
    (rest = [] → ∃ t, exec .waitEnd s = .next t ∧
      s.sameHost t ∧ s.toGarden.sameBeyondBench t.toGarden ∧ t.shows.engine = .idle ∧ t.shows.steps = [] ∧
      t.shows.head = (s.shows.head + x.next + 1) % 512 ∧ t.shows.scene = none ∧ t.shows.stack = [] ∧
      t.shows.ctx.owned = [] ∧ s.toBench.told t.toBench .showEnded ∧
      t.shows.ctx.nozzles = nmap (fun r => r.start 0 s.shows.ctx.defaultRamp) s.shows.ctx.nozzles ∧
      t.toBench.calm = { s.toBench with shows := t.shows, lights := t.lights }.calm) ∧
    (rest ≠ [] → rest.length < 65 → .sceneEnd ∉ rest → ∃ t, exec .waitEnd s = .next t ∧ s.sameHost t ∧
      s.playsTo t freed) ∧
    (∀ set ms more, rest = .scene set :: .wait ms :: more → .sceneEnd ∈ more.take 63 → ∃ t,
      exec .waitEnd s = .next t ∧ s.sameHost t ∧ s.sceneBegun t freed.head rest set ms ∧ t.shows.stack = []) ∧
    (65 ≤ rest.length → .sceneEnd ∉ rest.take 65 → .sceneEnd ∉ rest ∨ (∃ set, rest.head? = some (.scene set)) → ∃ t,
      exec .waitEnd s = .next t ∧ s.sameHost t ∧ State.faultsShow { s with shows := freed } t .sceneTooLong 0) ∧
    (∀ step more, rest = step :: more → (∀ set, step ≠ .scene set) → .sceneEnd ∈ rest → ∃ t,
      exec .waitEnd s = .next t ∧ s.sameHost t ∧ State.faultsShow { s with shows := freed } t .badStep 0)) ∧
  (∀ s : State, s.shows.engine ≠ .running ∨ (∀ x ∈ s.shows.scene, x.wait ≠ some 0) → exec .waitEnd s = .next s) ∧
  (∀ s : State, s.silentFor .wind 60 = true → s.shows.windSilent = false → ∃ t, exec .windSilent s = .next t ∧
    s.sameHost t ∧ s.toGarden.sameBeyondBench t.toGarden ∧ t.toBench.calm = { s.toBench with shows :=
      { s.shows with windSilent := true, windFactor := min s.shows.windFactor 500 } }.calm) ∧
  (∀ s : State, s.silentFor .wind 60 = false ∨ s.shows.windSilent = true → exec .windSilent s = .next s)

/-! ### Light Unit -/

/-- LIGHT_SET, LIGHT_SCHEDULE_SET, MOTION_MAP_SET and LIGHT_MANUAL write their clamped values, form the requests that
follow from them, post the circuit's asks and change no other circuit; a circuit out of use is off with no fault.
Numbers out of range, a short limit not above the open threshold and a source mapped twice are refused. The target of a
circuit is its SHOW level or the largest of the other requests, its ask pays for the target, and ESCORT and MOTION take
the SAFETY part of it. SCHEDULE follows the dusk state and, by night, the late window, which runs from the late time to
noon (R152, R153, R154, R155, R157, R158). The SCHEDULE and MOTION that a circuit out of use keeps are the model's
choice (assumption log 61), as is the fault that a LIGHT_SET leaving a circuit out of use clears (assumption log 70) and the
MOTION level that a LIGHT_SET leaves while its hold runs (assumption log 75).
That numbers out of range are refused before anything else in LIGHT_SET and MOTION_MAP_SET is the model's choice
(DESIGN CHOICE, assumption log 88). -/
def Obligations.LightSettingsWritten : Prop :=
  (∀ (s : State) (q : LightSet) (c : Circuit) (f : CircuitCfg), s.takes (.lightSet (.fields q)) → q.circuit = c.val + 1 →
    f = ⟨q.inUse, max 1 (min 300 q.ratedWatts), 100000 / (100000 / max 100 (min 2000 q.frequency)),
      max 10 (min 1000 q.fadeRate) / 10 * 10, min 1000 q.duskLevel, min 1000 q.nightLevel, min 1000 q.lateLevel,
      min 1000 q.motionLevel, max 1 (min 5000 q.openThreshold), max 100 (min 20000 q.shortLimit)⟩ →
    (f.shortLimit ≤ f.openThreshold → exec (.lightSet (.fields q)) s = .next
      (s.answer s.toGarden (.refused .inconsistent []))) ∧
    (f.openThreshold < f.shortLimit → ∃ t, exec (.lightSet (.fields q)) s = .next t ∧ s.replied t (.accepted f.fields) ∧
      s.toGarden.sameBeyondBench t.toGarden ∧ (t.lamp c).cfg = f ∧
      (t.lamp c).schedule = f.scheduled s.lights.dusk s.inLate ∧
      t.toBench.calm = (s.toBench.setLamp c { s.lamp c with
          cfg := f, schedule := f.scheduled s.lights.dusk s.inLate,
          state := if q.inUse = true then (s.lamp c).state else .off,
          openCount := if q.inUse = true then (s.lamp c).openCount else 0 }).calm ∧
      ((t.load (lightLoad c)).askA, (t.load (lightLoad c)).askB) = (t.lamp c).asks t.lights.dusk ∧
      (t.lamp c).output ≤ (s.lamp c).output ∧ (q.inUse = true → (t.lamp c).output ≤ t.lampCap c) ∧
      (q.inUse = false → (t.lamp c).output = 0 ∧ (t.lamp c).state = .off))) ∧
  (∀ (s : State) (q : LightScheduleSet), s.takes (.lightScheduleSet (.fields q)) → ∃ t,
    exec (.lightScheduleSet (.fields q)) s = .next t ∧
    s.replied t (.accepted [u2 (min 1439 q.lateTime), u2 (max 5 (min 600 q.motionHold))]) ∧
    s.toGarden.sameBeyondBench t.toGarden ∧
    { t.lights with circuits := s.lights.circuits } =
      { s.lights with lateTime := min 1439 q.lateTime, motionHold := max 5 (min 600 q.motionHold) } ∧
    (∀ c, (t.lamp c).calm = { s.lamp c with
        schedule := (s.lamp c).cfg.scheduled s.lights.dusk
          (match s.clock with | some x => lateAt (min 1439 q.lateTime) x.second | none => false) }.calm ∧
      ((t.load (lightLoad c)).askA, (t.load (lightLoad c)).askB) = (t.lamp c).asks t.lights.dusk) ∧
    t.toBench.calm = { s.toBench with lights := t.lights }.calm) ∧
  (∀ (s : State) (q : MotionMapSet) (i : Fin 8) (src : Option SourceId), s.takes (.motionMapSet (.fields q)) →
    q.entry = i.val + 1 → q.source = src.map (·.val + 1) →
    ((∀ j x, j ≠ i → src = some x → (tget s.lights.motionMap j).source ≠ some x) →
      exec (.motionMapSet (.fields q)) s = .next (s.answer { s.toGarden with lights :=
        { s.lights with motionMap := tset s.lights.motionMap i ⟨src, q.circuits⟩ } } (.accepted []))) ∧
    (∀ j x, j ≠ i → src = some x → (tget s.lights.motionMap j).source = some x →
      exec (.motionMapSet (.fields q)) s = .next (s.answer s.toGarden (.refused .inconsistent [])))) ∧
  (∀ (s : State) (q : LightManual) (c : Circuit), s.takes (.lightManual (.fields q)) → q.circuit = c.val + 1 → ∃ t,
    exec (.lightManual (.fields q)) s = .next t ∧
    s.replied t (.accepted [optField u2 (q.level.map (fun n => min 1000 n))]) ∧
    s.toGarden.sameBeyondBench t.toGarden ∧ (t.lamp c).manual = q.level.map (fun n => min 1000 n) ∧
    ((t.load (lightLoad c)).askA, (t.load (lightLoad c)).askB) = (t.lamp c).asks t.lights.dusk ∧
    t.toBench.calm = (s.toBench.setLamp c { s.lamp c with manual := q.level.map (fun n => min 1000 n) }).calm) ∧
  (∀ (s : State) (q : LightSet), s.takes (.lightSet (.fields q)) → q.circuit = 0 ∨ 12 < q.circuit →
    exec (.lightSet (.fields q)) s = .next (s.answer s.toGarden (.refused .noSuch []))) ∧
  (∀ (s : State) (q : MotionMapSet), s.takes (.motionMapSet (.fields q)) →
    (q.entry = 0 ∨ 8 < q.entry ∨ ∃ n, q.source = some n ∧ (n = 0 ∨ 40 < n)) →
    exec (.motionMapSet (.fields q)) s = .next (s.answer s.toGarden (.refused .noSuch []))) ∧
  (∀ (s : State) (q : LightManual), s.takes (.lightManual (.fields q)) → q.circuit = 0 ∨ 12 < q.circuit →
    exec (.lightManual (.fields q)) s = .next (s.answer s.toGarden (.refused .noSuch []))) ∧
  (∀ (x : LampCircuit) (d : DuskState) (part : Contribution → Nat) (escort target ask : Nat), escort = x.escort d →
    target = x.target d → ask = (x.cfg.ratedWatts * target + 999) / 1000 →
    (∀ p, part p = max (p.present.getD 0) ((p.held.map HeldEscort.level).getD 0)) →
    (x.cfg.inUse = false ∨ d ≠ .night → escort = 0) ∧
    (x.cfg.inUse = true → d = .night →
      escort = max (part x.escorts.s0) (max (part x.escorts.s1) (part x.escorts.s2))) ∧
    (x.cfg.inUse = false → target = 0) ∧ (x.cfg.inUse = true → ∀ l ∈ x.shows, target = l) ∧
    (x.cfg.inUse = true → x.shows = none →
      target = max (max x.schedule x.motion) (max escort (x.manual.getD 0))) ∧
    (x.state.isShort = true → x.asks d = (0, 0)) ∧
    (x.state.isShort = false → (x.asks d).1 = min ask ((x.cfg.ratedWatts * max escort x.motion + 999) / 1000) ∧
      (x.asks d).1 + (x.asks d).2 = ask)) ∧
  (∀ late s : Nat, (720 ≤ late → (lateAt late s = true ↔ late * 60 ≤ s ∨ s < 43200)) ∧
    (late < 720 → (lateAt late s = true ↔ late * 60 ≤ s ∧ s < 43200))) ∧
  (∀ (f : CircuitCfg) (late : Bool), f.scheduled .day late = 0 ∧ f.scheduled .dusk late = f.duskLevel ∧
    f.scheduled .night false = f.nightLevel ∧ f.scheduled .night true = f.lateLevel)

/-- LIGHT_CLEAR_FAULT clears a fault with its open count, unless the circuit's channel is tripped; a circuit without a
fault and a number out of range are refused. LAMP_OPEN_FAULT makes FAULT_OPEN of a lamp in OFF or LIT whose open count
has reached 20, and reports it with its channel's current. A new grant cuts the output at its cap; the light tick fades
the output toward the smaller of target and cap by one fade step, and judges the lamp from its channel's current: the
open count, the end of FAULT_OPEN, and FAULT_SHORT with output and asks 0 and its report, which a trip of the channel
makes too. CURRENT_SAMPLE runs the light tick on every circuit with the currents it takes: where no channel newly trips,
each circuit is faded and then judged (R158, R159, R160, R161, R162). That the open count stops at 20 and
LAMP_OPEN_FAULT follows as a command of its own (DEDUCED, assumption log 24), that the fade comes first, and that a
circuit out of use does not fade but is judged like any other (DEDUCED, assumption log 36), and that a circuit without a
channel counts no open lamp (assumption log 9), is the model's choice, as is the frequency in the channel's record
(DEDUCED, assumption log 30). -/
def Obligations.LampFaultsClearAndOpen : Prop :=
  (∀ (s : State) (c : Circuit), s.takes (.lightClearFault (.fields (c.val + 1))) →
    (s.lamp c).state = .off ∨ (s.lamp c).state = .lit ∨
      ((∃ x, (s.lamp c).state = .faultShort x) ∧ s.power.fnTripped (.light c) = true) →
    exec (.lightClearFault (.fields (c.val + 1))) s = .next (s.answer s.toGarden (.refused .inconsistent []))) ∧
  (∀ (s : State) (c : Circuit), s.takes (.lightClearFault (.fields (c.val + 1))) →
    (s.lamp c).state = .faultOpen ∨ ((∃ x, (s.lamp c).state = .faultShort x) ∧ s.power.fnTripped (.light c) = false) →
    ∃ t, exec (.lightClearFault (.fields (c.val + 1))) s = .next t ∧ s.replied t (.accepted []) ∧
      s.toGarden.sameBeyondBench t.toGarden ∧ ((t.lamp c).state = .off ∨ (t.lamp c).state = .lit) ∧
      (t.lamp c).openCount = 0 ∧
      (∀ i, s.power.fnCurrent (.light c) = some i →
        s.toBench.told t.toBench
          (.lightFault c (if (s.lamp c).state = .faultOpen ∧ (s.lamp c).output ≠ 0 then .lit else .off) i)) ∧
      t.toBench.calm =
        { s.toBench.setLamp c { s.lamp c with state := .off, openCount := 0 } with freeDrawn := t.freeDrawn }.calm) ∧
  (∀ (s : State) (n : Nat), s.takes (.lightClearFault (.fields n)) → n = 0 ∨ 12 < n →
    exec (.lightClearFault (.fields n)) s = .next (s.answer s.toGarden (.refused .noSuch []))) ∧
  (∀ (s : State) (c : Circuit) (i : Nat), (s.lamp c).state = .off ∨ (s.lamp c).state = .lit → 20 ≤ (s.lamp c).openCount →
    s.power.fnCurrent (.light c) = some i → exec (.lampOpenFault c) s = .next { s with
      toBench :=
        { s.toBench.setLamp c { s.lamp c with state := .faultOpen, openCount := 0 } with
          reports := s.reports.add s.stamp (.lightFault c .faultOpen i) } }) ∧
  (∀ (s : State) (c : Circuit), (s.lamp c).openCount < 20 ∨ (s.lamp c).state = .faultOpen ∨
    (∃ x, (s.lamp c).state = .faultShort x) → exec (.lampOpenFault c) s = .next s) ∧
  (∀ (b t : Bench) (c : Circuit) (x : LampCircuit) (cap : Nat), t = b.lampGrant c → x = b.lamp c →
    cap = min 1000 (((b.load (lightLoad c)).grantA + (b.load (lightLoad c)).grantB) * 1000 / x.cfg.ratedWatts) →
    b.lampCap c = cap ∧ (x.output ≤ cap → t = b) ∧ (cap < x.output → t.calm = b.calm ∧ (t.lamp c).output = cap ∧
      (x.state = .lit → (t.lamp c).state = if cap = 0 then .off else .lit) ∧
      ∀ ch, b.power.channelOf (.light c) = some ch → (t.channel ch).requested = cap)) ∧
  (∀ (b t : Bench) (c : Circuit) (x : LampCircuit) (goal step : Nat), t = b.fadeLamp c → x = b.lamp c →
    goal = min (x.target b.lights.dusk) (b.lampCap c) → step = x.cfg.fadeRate / 10 →
    (x.cfg.inUse = false ∨ x.state.isShort = true → t = b) ∧
    (x.cfg.inUse = true → x.state.isShort = false → t.calm = b.calm ∧
      (t.lamp c).output = (if x.output < goal then min goal (x.output + step) else max goal (x.output - step)) ∧
      (x.state = .off ∨ x.state = .lit → (t.lamp c).state = .off ∨ (t.lamp c).state = .lit) ∧
      (x.state = .off → 0 < (t.lamp c).output → (t.lamp c).state = .lit) ∧
      (x.state = .lit → (t.lamp c).output = 0 → (t.lamp c).state = .off) ∧
      (x.state = .faultOpen → (t.lamp c).state = .faultOpen) ∧
      ∀ ch, b.power.channelOf (.light c) = some ch → (t.channel ch).requested = (t.lamp c).output ∧
        (t.channel ch).frequency = x.cfg.frequency)) ∧
  (∀ (b t : Bench) (c : Circuit) (x : LampCircuit) (i : Nat), t = b.judgeLamp c → x = b.lamp c →
    b.power.fnCurrent (.light c) = some i →
    (x.state.isShort = true → t = b) ∧
    (x.state.isShort = false → x.cfg.shortLimit < i → (t.lamp c).state = .faultShort .short ∧ (t.lamp c).output = 0 ∧
      (t.lamp c).openCount = 0 ∧ (t.load (lightLoad c)).askA = 0 ∧ (t.load (lightLoad c)).askB = 0 ∧
      b.told t (.lightFault c (.faultShort .short) i)) ∧
    (x.state = .faultOpen → i ≤ x.cfg.shortLimit → x.cfg.openThreshold ≤ i →
      t = { b.setLamp c { x with state := if x.output = 0 then .off else .lit, openCount := 0 } with
        reports := b.reports.add b.stamp (.lightFault c (if x.output = 0 then .off else .lit) i) }) ∧
    (x.state = .faultOpen → i ≤ x.cfg.shortLimit → i < x.cfg.openThreshold → t = b) ∧
    (x.state = .off ∨ x.state = .lit → i ≤ x.cfg.shortLimit → t = b.setLamp c { x with
      openCount := if 100 ≤ x.output ∧ i < x.cfg.openThreshold then
        if x.openCount < 20 then x.openCount + 1 else x.openCount else 0 })) ∧
  (∀ (b t : Bench) (c : Circuit) (i : Nat), t = b.shortLamp c .trip → b.power.fnCurrent (.light c) = some i →
    (b.lamp c).state ≠ .faultShort .trip → (t.lamp c).state = .faultShort .trip ∧ (t.lamp c).output = 0 ∧
    (t.lamp c).openCount = 0 ∧ (t.load (lightLoad c)).askA = 0 ∧ (t.load (lightLoad c)).askB = 0 ∧
    b.told t (.lightFault c (.faultShort .trip) i)) ∧
  (∀ (s : State) (volts : Vector Nat 24) (cur : ChannelId → Nat) (b : Bench) (after : Circuit → LampCircuit),
    (∀ c, cur c = if 3000000 ≤ tget volts c then 30000 else 30000 * tget volts c / 3000000) →
    (∀ c, (s.channel c).state ≠ .tripped → cur c ≤ (s.channel c).cfg.tripCurrent) → s.power.realloc = false →
    b = { s.toBench with power := { s.power with channels := b.power.channels } } →
    (∀ c, b.channel c = { s.channel c with current := cur c }) →
    (∀ c, after c = ((b.fadeLamp c).judgeLamp c).lamp c) → ∃ t, exec (.currentSample volts) s = .next t ∧
    s.sameHost t ∧ s.toGarden.sameBeyondBench t.toGarden ∧ (∀ c, (t.lamp c).calm = (after c).calm) ∧
    ((∀ c, (after c).state.isShort = (s.lamp c).state.isShort) →
      (∀ c, t.lamp c = after c) ∧ t.power.loads = s.power.loads) ∧
    (∀ c i, s.power.channelOf (.light c) = some i →
      ((s.lamp c).state.isShort = false → (s.lamp c).cfg.shortLimit < cur i →
        t.lamp c = { s.lamp c with state := .faultShort .short, output := 0, openCount := 0 } ∧
        s.toBench.told t.toBench (.lightFault c (.faultShort .short) (cur i))) ∧
      ((s.lamp c).state = .faultOpen → cur i ≤ (s.lamp c).cfg.shortLimit → (s.lamp c).cfg.openThreshold ≤ cur i →
        s.toBench.told t.toBench (.lightFault c (after c).state (cur i)))) ∧
    (∀ c, s.power.channelOf (.light c) = none → (t.lamp c).openCount = 0))

/-- DUSK_DWELL_EXPIRY takes the pending dusk state, reports it, and forms SCHEDULE, MOTION and escorts afresh for every
circuit; DUSK_SILENT drops the pending state, marks and reports the silence, once in each; MOTION_HOLD_EXPIRY and
ESCORT_HOLD_EXPIRY end their request. Nothing else of the lights changes. During NIGHT a slot's escorts follow its zone
circuit by circuit, with the level it leaves held for 10 s (R151, R153, R154, R155, R156). That an expiry acts only once
the running time reaches it within the present second, and moves up to it, is the model's choice (assumption log 1), as
is a silence counted in whole seconds and its onset taken once (assumption log 26) the SCHEDULE and MOTION of a circuit
out of use (assumption log 61), and a pending dusk state that is taken even where its last DUSK source has been removed
(assumption log 69). -/
def Obligations.LightTimersEnd : Prop :=
  (∀ (s : State) (p : PendingDusk), s.lights.pendingDusk = some p → p.expiry / 1000 ≤ s.time.secs →
    p.state ≠ s.lights.dusk → ∃ t,
    exec .duskDwellExpiry s = .next t ∧ s.sameHost t ∧ s.toGarden.sameBeyondBench t.toGarden ∧
    { t.lights with circuits := s.lights.circuits } = { s.lights with dusk := p.state, pendingDusk := none } ∧
    (∀ c, (t.lamp c).calm = { s.lamp c with
      schedule := (s.lamp c).cfg.scheduled p.state s.inLate,
      motion := if p.state = DuskState.day then 0 else (s.lamp c).motion,
      motionExpiry := if p.state = DuskState.day then none else (s.lamp c).motionExpiry,
      escorts := if p.state = DuskState.night then
          ⟨⟨s.escortLevel .s0 c, none⟩, ⟨s.escortLevel .s1 c, none⟩, ⟨s.escortLevel .s2 c, none⟩⟩
        else if s.lights.dusk = DuskState.night then ⟨⟨none, none⟩, ⟨none, none⟩, ⟨none, none⟩⟩ else (s.lamp c).escorts }.calm) ∧
    s.toBench.told t.toBench (.duskState p.state (s.lights.lux.getD 0)) ∧
    t.toBench.calm = { s.toBench with time := s.time.reach p.expiry, lights := t.lights }.calm) ∧
  (∀ s : State, (∀ p ∈ s.lights.pendingDusk, s.time.secs < p.expiry / 1000) → exec .duskDwellExpiry s = .next s) ∧
  (∀ s : State, s.silentFor .dusk 600 = true → s.lights.onset = false → exec .duskSilent s = .next { s with
    reports := s.reports.add s.stamp .duskSilent,
    lights := { s.lights with pendingDusk := none, silent := true, onset := true } }) ∧
  (∀ s : State, s.silentFor .dusk 600 = false ∨ s.lights.onset = true → exec .duskSilent s = .next s) ∧
  (∀ (s : State) (c : Circuit) (x : Nat), (s.lamp c).motionExpiry = some x → x / 1000 ≤ s.time.secs → ∃ t,
    exec (.motionHoldExpiry c) s = .next t ∧ s.sameHost t ∧ s.toGarden.sameBeyondBench t.toGarden ∧
    t.toBench.calm = { s.toBench.setLamp c { s.lamp c with motion := 0, motionExpiry := none } with
      time := s.time.reach x }.calm) ∧
  (∀ (s : State) (c : Circuit), (∀ x ∈ (s.lamp c).motionExpiry, s.time.secs < x / 1000) →
    exec (.motionHoldExpiry c) s = .next s) ∧
  (∀ (s : State) (k : Slot) (c : Circuit) (h : HeldEscort), ((s.lamp c).escorts.get k).held = some h →
    h.expiry / 1000 ≤ s.time.secs → ∃ t,
    exec (.escortHoldExpiry k c) s = .next t ∧ s.sameHost t ∧ s.toGarden.sameBeyondBench t.toGarden ∧
    t.toBench.calm = { s.toBench.setLamp c { s.lamp c with
        escorts := (s.lamp c).escorts.put k ⟨((s.lamp c).escorts.get k).present, none⟩ } with
      time := s.time.reach h.expiry }.calm) ∧
  (∀ (s : State) (k : Slot) (c : Circuit), (∀ h ∈ ((s.lamp c).escorts.get k).held, s.time.secs < h.expiry / 1000) →
    exec (.escortHoldExpiry k c) s = .next s) ∧
  (∀ (g h : Garden) (k : Slot), h = g.reformEscort k → (g.lights.dusk ≠ .night → h = g) ∧
    (g.lights.dusk = .night → g.sameBeyondBench h ∧ h.toBench.calm = { g.toBench with lights := h.lights }.calm ∧
      { h.lights with circuits := g.lights.circuits } = g.lights ∧
      ∀ (c : Circuit) (x y : Contribution) (now : Option Nat), x = (g.lamp c).escorts.get k →
        y = (h.lamp c).escorts.get k → now = g.escortLevel k c →
        (h.lamp c).calm = { g.lamp c with escorts := (g.lamp c).escorts.put k y }.calm ∧ y.present = now ∧
        (∀ l ∈ x.present, now.getD 0 < l ∨ now = none → y.held = some ⟨l, g.now + 10000⟩) ∧
        ((∀ l ∈ x.present, ∃ m ∈ now, l ≤ m) → y.held = x.held))) ∧
  (∀ (g : Garden) (k : Slot) (c : Circuit),
    ((g.mower k).state = .absent ∨ (g.mower k).state = .docked ∨ (g.mower k).state = .charging ∨ (g.mower k).state = .lost ∨
      (g.track k).cell = none → g.escortLevel k c = none) ∧
    (∀ z, (g.mower k).state.supervised = true → (g.track k).cell.isSome = true → (g.track k).zone = some z →
      g.escortLevel k c = if (g.ground.zone z).cfg.circuit = some c then some (g.ground.zone z).cfg.escort else none))

/-! ### Power Unit -/

/-- SUPPLY_SET writes the clamped settings, Ceff at the new capacity and both counts at 0; SUPPLY_SAMPLE keeps the draw and
moves the counts; POWER_DERATED, at an overdraw count of 5, and POWER_RESTORED, at a restore count of 600, move Ceff one
step, within half the capacity and the capacity, and report each step taken. Without the count they change nothing (R166,
R167, R168). That the two counts stop at 5 and 600 and that the steps of Ceff are commands of their own is the model's
choice (DEDUCED, assumption log 24). -/
def Obligations.SupplySetSampledAndStepped : Prop :=
  (∀ (s : State) (q : SupplySet) (c r f : Nat), s.takes (.supplySet (.fields q)) → c = max 200 (min 3000 q.capacity) →
    r = min 200 q.reserve → f = max 500 (min 10000 q.fullScale) → ∃ t, exec (.supplySet (.fields q)) s = .next t ∧
    s.replied t (.accepted [u2 c, u1 r, u2 f, u2 c, u2 (c * (1000 - r) / 1000)]) ∧
    s.toGarden.sameBeyondBench t.toGarden ∧ t.toBench.calm = { s.toBench with power :=
      { s.power with cfg := ⟨c, r, f⟩, ceff := c, overdraw := 0, restore := 0 } }.calm) ∧
  (∀ (s : State) (v d a : Nat), d = (if 3000000 ≤ v then s.power.cfg.fullScale else s.power.cfg.fullScale * v / 3000000) →
    a = s.power.ceff * (1000 - s.power.cfg.reserve) / 1000 →
    (a < d → exec (.supplySample v) s = .next { s with power := { s.power with
      draw := d, overdraw := if s.power.overdraw < 5 then s.power.overdraw + 1 else s.power.overdraw, restore := 0 } }) ∧
    (d ≤ a → s.power.cfg.capacity ≤ s.power.ceff → exec (.supplySample v) s = .next
      { s with power := { s.power with draw := d, overdraw := 0, restore := 0 } }) ∧
    (d ≤ a → s.power.ceff < s.power.cfg.capacity → exec (.supplySample v) s = .next { s with power := { s.power with
      draw := d, overdraw := 0,
      restore := if s.power.restore < 600 then s.power.restore + 1 else s.power.restore } })) ∧
  (∀ (s : State) (x : Nat), 5 ≤ s.power.overdraw →
    x = max (s.power.cfg.capacity / 2) (s.power.ceff - s.power.cfg.capacity / 10) → ∃ t,
    exec .powerDerated s = .next t ∧ s.sameHost t ∧ s.toGarden.sameBeyondBench t.toGarden ∧
    t.toBench.calm = { s.toBench with power := { s.power with overdraw := 0, ceff := x } }.calm ∧
    (x = s.power.ceff → t = { s with power := { s.power with overdraw := 0 } }) ∧
    (x ≠ s.power.ceff → s.toBench.told t.toBench
      (.powerDerated x (x * (1000 - s.power.cfg.reserve) / 1000) s.power.draw))) ∧
  (∀ s : State, s.power.overdraw < 5 → exec .powerDerated s = .next s) ∧
  (∀ (s : State) (x : Nat), 600 ≤ s.power.restore → s.power.ceff < s.power.cfg.capacity →
    x = min s.power.cfg.capacity (s.power.ceff + s.power.cfg.capacity / 10) → ∃ t,
    exec .powerRestored s = .next t ∧ s.sameHost t ∧ s.toGarden.sameBeyondBench t.toGarden ∧
    t.toBench.calm = { s.toBench with power := { s.power with restore := 0, ceff := x } }.calm ∧
    s.toBench.told t.toBench (.powerRestored x (x * (1000 - s.power.cfg.reserve) / 1000))) ∧
  (∀ s : State, s.power.restore < 600 ∨ s.power.cfg.capacity ≤ s.power.ceff → exec .powerRestored s = .next s)

/-- The allocation (R170). Over one class, of the asks `asks` with `r` watts remaining: the grants are the asks where the
watts suffice; otherwise each load gets the floor of its share, and the leftover watts go one each to the loads with a
non-zero ask in ascending index, all of `r` is granted, and no load gets more than its ask. The classes follow in the order
of R169 on what remains of the available watts, and the allocation changes nothing but grants and totals. It allocates a
load on its effective ask: 0 while the channel of its function is TRIPPED or, for the fountain, the supply is WITHHELD, and
otherwise the posted ask. The charger's answer to its grant: a docked mower with less than 100 percent charges while the
grant is at least a fifth of its rated watts, is told of at each change, and the charger's level follows the grant (R69,
R169, R170). -/
def Obligations.AllocationSharesTheSupply : Prop :=
  (∀ (r : Nat) (asks : List Nat), (shareOut r asks).length = asks.length ∧
    (asks.sum ≤ r → shareOut r asks = asks) ∧
    (r < asks.sum → (shareOut r asks).sum = r ∧ ∀ i, (shareOut r asks).getD i 0 ≤ asks.getD i 0 ∧
      (shareOut r asks).getD i 0 = r * asks.getD i 0 / asks.sum +
        if 0 < asks.getD i 0 ∧ ((asks.take i).filter (fun a => 0 < a)).length <
          r - (asks.map (fun a => r * a / asks.sum)).sum then 1 else 0)) ∧
  (∀ (b a : Bench) (A : Nat) (first second : LoadId → Nat) (t : Totals), a = b.allocate → t = a.power.totals →
    A = b.power.ceff * (1000 - b.power.cfg.reserve) / 1000 → (∀ i, first i = (b.effective i).1) →
    (∀ i, second i = (b.effective i).2) →
    a = { b with power := { b.power with loads := a.power.loads, totals := t, realloc := false } } ∧
    (∀ i, (a.load i).askA = (b.load i).askA ∧ (a.load i).askB = (b.load i).askB ∧ (a.load i).asked = (b.load i).asked) ∧
    [(a.load filterLoad).grantA] = shareOut A [first filterLoad] ∧
    (a.load topupLoad).grantA :: (List.finRange 12).map (fun c => (a.load (lightLoad c)).grantA) =
      shareOut t.filterBase.remaining (first topupLoad :: (List.finRange 12).map (fun c => first (lightLoad c))) ∧
    [(a.load filterLoad).grantB] = shareOut t.safety.remaining [second filterLoad] ∧
    [(a.load (chargerLoad .s0)).grantA, (a.load (chargerLoad .s1)).grantA, (a.load (chargerLoad .s2)).grantA] =
      shareOut t.filterExtra.remaining [first (chargerLoad .s0), first (chargerLoad .s1), first (chargerLoad .s2)] ∧
    [(a.load fountainLoad).grantA] = shareOut t.charge.remaining [first fountainLoad] ∧
    (List.finRange 12).map (fun c => (a.load (lightLoad c)).grantB) =
      shareOut t.fountain.remaining ((List.finRange 12).map (fun c => second (lightLoad c))) ∧
    t.filterBase.remaining + (a.load filterLoad).grantA = A ∧
    t.safety.remaining + (a.load topupLoad).grantA +
      ((List.finRange 12).map (fun c => (a.load (lightLoad c)).grantA)).sum = t.filterBase.remaining ∧
    t.filterExtra.remaining + (a.load filterLoad).grantB = t.safety.remaining ∧
    t.charge.remaining + (a.load (chargerLoad .s0)).grantA + (a.load (chargerLoad .s1)).grantA +
      (a.load (chargerLoad .s2)).grantA = t.filterExtra.remaining ∧
    t.fountain.remaining + (a.load fountainLoad).grantA = t.charge.remaining ∧
    t.ambient.remaining + ((List.finRange 12).map (fun c => (a.load (lightLoad c)).grantB)).sum = t.fountain.remaining) ∧
  (∀ (b : Bench) (posted : LoadId → Nat × Nat), (∀ i, posted i = ((b.load i).askA, (b.load i).askB)) →
    (b.effective filterLoad = if b.power.fnTripped .filterPump = true then (0, 0) else posted filterLoad) ∧
    (b.effective topupLoad = if b.power.fnTripped .topupValve = true then (0, 0) else posted topupLoad) ∧
    (b.effective fountainLoad = if b.power.fnTripped .fountainPump = true ∨ b.water.causes ≠ ⟨false, false, false⟩ then (0, 0)
      else posted fountainLoad) ∧
    (∀ k, b.effective (chargerLoad k) =
      if b.power.fnTripped (.charger k) = true then (0, 0) else posted (chargerLoad k)) ∧
    (∀ c, b.effective (lightLoad c) = if b.power.fnTripped (.light c) = true then (0, 0) else posted (lightLoad c)) ∧
    (∀ f, (∀ c, (b.channel c).cfg.function ≠ some f) → b.power.fnTripped f = false) ∧
    (∀ f c, (b.channel c).cfg.function = some f → (∀ d, d ≠ c → (b.channel d).cfg.function ≠ some f) →
      (b.power.fnTripped f = true ↔ (b.channel c).state = .tripped))) ∧
  (∀ (b t : Bench) (k : Slot) (x y : FleetSlot) (grant : Nat), t = b.chargerTest k → x = b.slot k → y = t.slot k →
    grant = (b.load (chargerLoad k)).grantA →
    t.calm = b.calm ∧ (∀ j, j ≠ k → t.slot j = b.slot j) ∧
    (∀ p ∈ x.ctx.battery, x.ctx.state = .docked ∨ x.ctx.state = .charging →
      (p < 100 → x.cfg.ratedWatts ≤ 5 * grant → y.ctx.state = .charging) ∧
      (100 ≤ p ∨ 5 * grant < x.cfg.ratedWatts → y.ctx.state = .docked)) ∧
    (x.ctx.state ≠ .docked → x.ctx.state ≠ .charging → y.ctx = x.ctx) ∧
    (y.ctx.state ≠ x.ctx.state → b.told t (.mowerState k y.ctx.state none x.ctx.battery)) ∧
    y.chargerLevel = (if y.ctx.state = .charging then min 1000 (grant * 1000 / x.cfg.ratedWatts) else 0) ∧
    (∀ c, b.power.channelOf (.charger k) = some c → (t.channel c).requested = y.chargerLevel) ∧
    x.chargerAsk = (if (x.ctx.state = .docked ∨ x.ctx.state = .charging) ∧ (∃ p ∈ x.ctx.battery, p < 100) then
      x.cfg.ratedWatts else 0))

/-- CHANNEL_SET writes the clamped channel record: with the function kept, only its fields; with another one, the
channel drops the old function, off at once and with no hold, a switch now if it was DRIVING, and takes the new one's
present level as its requested level, a switch request under the new interval. It is refused for numbers and codes out
of range, on a TRIPPED channel, and where another channel holds the function. SWITCH_HOLD_EXPIRY applies the requested
level as it stands; a change of level that needs no switch is applied at once, and one that does waits for the switch
interval; the pin then does what the channel's type makes of the level (R172, R173, R174). That an expiry acts only once
the running time reaches it within the present second, and moves up to it, so that the last switch is made then, is the
model's choice (assumption log 1).
That the reply says whether the type matches in a last byte, 1 where it does, is the model's choice (DESIGN CHOICE,
assumption log 86).
That the new function's level is judged with the new interval and type, where the request changes these too, is the
model's choice (DESIGN CHOICE, assumption log 91). -/
def Obligations.ChannelsBoundAndSwitched : Prop :=
  (∀ (s : State) (q : ChannelSet) (c : ChannelId) (ty : ChannelType) (f : Option Fn) (g : ChannelCfg),
    s.takes (.channelSet (.fields q)) → q.channel = c.val + 1 → q.type = .named ty → q.function = f.map Coded.named →
    g = ⟨ty, f, min 60 (q.interval.getD (if f = some .filterPump ∨ f = some .fountainPump then 10 else 0)),
      max 100 (min 30000 q.tripCurrent)⟩ →
    ((s.channel c).state = .tripped → exec (.channelSet (.fields q)) s = .next
      (s.answer s.toGarden (.refused .inconsistent []))) ∧
    (∀ d x, (s.channel c).state ≠ .tripped → f = some x → d ≠ c → (s.channel d).cfg.function = some x →
      (∀ e, e < d → e ≠ c → (s.channel e).cfg.function ≠ some x) → exec (.channelSet (.fields q)) s = .next
        (s.answer s.toGarden (.refused .inconsistent [u1 (d.val + 1)]))) ∧
    ((s.channel c).state ≠ .tripped → (∀ d x, d ≠ c → f = some x → (s.channel d).cfg.function ≠ some x) → ∃ t,
      exec (.channelSet (.fields q)) s = .next t ∧ s.replied t (.accepted (g.fields ++ [flag g.matched])) ∧
      t.toGarden = { s.toGarden with power := { s.power with channels := t.power.channels } } ∧
      (t.channel c).cfg = g ∧ (∀ d, d ≠ c → t.channel d = s.channel d) ∧
      ((s.channel c).cfg.function = f → t.channel c = { s.channel c with cfg := g }) ∧
      ((s.channel c).cfg.function ≠ f → (t.channel c).requested = (f.map s.levelOf).getD 0 ∧
        (t.channel c).state ≠ .tripped ∧ (t.channel c).current = (s.channel c).current) ∧
      (∀ (last : Option Nat) (level : Nat), (s.channel c).cfg.function ≠ f → level = (f.map s.levelOf).getD 0 →
        last = (if (s.channel c).state = .driving then some s.now else (s.channel c).lastSwitch) →
        (level = 0 → (t.channel c).applied = 0 ∧ (t.channel c).holdExpiry = none ∧ (t.channel c).lastSwitch = last ∧
          (t.channel c).state = .idle) ∧
        (level ≠ 0 → (∀ u ∈ last, u + g.interval * 1000 ≤ s.now) → (t.channel c).applied = level ∧
          (t.channel c).holdExpiry = none ∧ (t.channel c).lastSwitch = some s.now ∧ (t.channel c).state = .driving) ∧
        (∀ u ∈ last, level ≠ 0 → s.now < u + g.interval * 1000 → (t.channel c).applied = 0 ∧
          (t.channel c).holdExpiry = some (u + g.interval * 1000) ∧ (t.channel c).lastSwitch = some u ∧
          (t.channel c).state = .idle)))) ∧
  (∀ (s : State) (q : ChannelSet), s.takes (.channelSet (.fields q)) → q.channel = 0 ∨ 24 < q.channel →
    exec (.channelSet (.fields q)) s = .next (s.answer s.toGarden (.refused .noSuch []))) ∧
  (∀ (s : State) (q : ChannelSet) (c : ChannelId), s.takes (.channelSet (.fields q)) → q.channel = c.val + 1 →
    (∃ k, q.type = .unknown k) ∨ (∃ k, q.function = some (.unknown k)) →
    exec (.channelSet (.fields q)) s = .next (s.answer s.toGarden (.refused .badBody []))) ∧
  (∀ (s : State) (c : ChannelId) (x : Channel) (e : Nat), x = s.channel c → x.holdExpiry = some e → e / 1000 ≤ s.time.secs →
    x.state ≠ .tripped → exec (.switchHoldExpiry c) s = .next { s with
      toBench :=
        { s.toBench.setChannel c { x with
            applied := x.requested, state := if x.requested = 0 then .idle else .driving, holdExpiry := none,
            lastSwitch := if x.needsSwitch x.requested = true then some (s.toBench.reach e).now else x.lastSwitch } with
          time := s.time.reach e } }) ∧
  (∀ (s : State) (c : ChannelId), (∀ e ∈ (s.channel c).holdExpiry, s.time.secs < e / 1000) →
    exec (.switchHoldExpiry c) s = .next s) ∧
  (∀ (x y : Channel) (level now : Nat) (switches : Bool), y = x.request level now → x.state ≠ .tripped →
    level ≠ x.requested → switches = (if x.cfg.type = .relay then decide (level ≠ x.applied) else
      decide (level = 0 ∧ x.applied ≠ 0 ∨ level ≠ 0 ∧ x.applied = 0)) →
    y.requested = level ∧ y.cfg = x.cfg ∧
    (switches = false → y.applied = level ∧ y.holdExpiry = none ∧ y.lastSwitch = x.lastSwitch) ∧
    (switches = true → x.holdExpiry.isSome = true → y.applied = x.applied ∧ y.holdExpiry = x.holdExpiry ∧
      y.lastSwitch = x.lastSwitch) ∧
    (switches = true → x.holdExpiry = none → (∀ d ∈ x.lastSwitch, d + x.cfg.interval * 1000 ≤ now) →
      y.applied = level ∧ y.holdExpiry = none ∧ y.lastSwitch = some now) ∧
    (∀ d ∈ x.lastSwitch, switches = true → x.holdExpiry = none → now < d + x.cfg.interval * 1000 →
      y.applied = x.applied ∧ y.holdExpiry = some (d + x.cfg.interval * 1000) ∧ y.lastSwitch = some d) ∧
    (y.applied ≠ x.applied → y.state = if level = 0 then .idle else .driving)) ∧
  (∀ x : Channel, (x.cfg.type = .relay → x.pin = .contact (decide (0 < x.applied))) ∧
    (x.cfg.type = .pwm → x.pin = .pulses x.applied x.frequency) ∧
    (x.cfg.type = .proportional → x.pin = .share x.applied))

/-- CURRENT_SAMPLE keeps every channel's current and trips exactly the channels above their trip current, off at once and
reported; a tripped channel stays tripped until CHANNEL_RESET, which is refused on any other channel, takes it out, its
owner acts, and the requested level is taken as a switch from off. The owner of the function acts: on a trip the filter
faults with CHANNEL_TRIP, a running backwash ends, the top-up valve is TRIPPED, the supply takes the cause TRIP and the show
runs dry, a nozzle stands at 0, a charging mower falls to DOCKED, a circuit is FAULT_SHORT (TRIP); on a reset the filter
leaves the fault once neither of its channels is tripped, the valve closes and takes up its demand, and the supply loses the
cause (R69, R104, R123, R124, R145, R161, R175, R176, R177). That one command samples all channels, in ascending order
(DEDUCED, assumption log 36), and that TOPUP_CAPPED gives the cap in seconds (DEDUCED, assumption log 48) is the model's
choice. -/
def Obligations.ChannelsTripAndReset : Prop :=
  (∀ (s : State) (volts : Vector Nat 24), ∃ t, exec (.currentSample volts) s = .next t ∧ s.sameHost t ∧
    s.toGarden.sameBeyondBench t.toGarden ∧
    (∀ c, (t.channel c).cfg = (s.channel c).cfg ∧
      (t.channel c).current = (if 3000000 ≤ tget volts c then 30000 else 30000 * tget volts c / 3000000) ∧
      ((t.channel c).state = .tripped ↔
        (s.channel c).state = .tripped ∨ (s.channel c).cfg.tripCurrent < (t.channel c).current) ∧
      ((s.channel c).state ≠ .tripped → (t.channel c).state = .tripped → (t.channel c).applied = 0 ∧
        (t.channel c).holdExpiry = none ∧
        s.toBench.told t.toBench (.channelTrip c (s.channel c).cfg.function (t.channel c).current))) ∧
    (∀ (c : ChannelId) (f : Fn), (s.channel c).state ≠ .tripped → (t.channel c).state = .tripped →
      s.power.channelOf f = some c →
      (f = .filterPump → t.water.filter.state = .fault .channelTrip ∧
        (s.water.filter.state ≠ .fault .channelTrip → t.water.filter.step = 0)) ∧
      (f = .backwashValve → s.water.filter.state = .backwash → t.water.filter.state ≠ .backwash) ∧
      (f = .topupValve → t.water.topup = .tripped) ∧
      (f = .fountainPump → t.water.causes.trip = true ∧ (s.shows.dry = s.withheld → t.shows.dry = true)) ∧
      (∀ n, f = .nozzle n → (s.load fountainLoad).asked = false → (nget t.shows.heights n).e = 0) ∧
      (∀ k, f = .charger k → (s.mower k).state = .charging → (s.mower k).battery.isSome = true →
        (s.load (chargerLoad k)).grantA ≠ 0 → (s.slot k).cfg.ratedWatts ≠ 0 → (t.mower k).state = .docked) ∧
      (∀ x, f = .light x → (t.lamp x).state = .faultShort .trip ∧
        ((s.lamp x).state ≠ .faultShort .trip → (t.lamp x).output = 0))) ∧
    t.power.cfg = s.power.cfg ∧ t.power.ceff = s.power.ceff ∧ t.power.draw = s.power.draw ∧
    t.toBench.calm = { s.toBench with power := t.power, lights := t.lights, freeDrawn := t.freeDrawn }.calm) ∧
  (∀ (s : State) (c : ChannelId), s.takes (.channelReset (.fields (c.val + 1))) → (s.channel c).state = .tripped → ∃ t,
    exec (.channelReset (.fields (c.val + 1))) s = .next t ∧
    s.replied t (.accepted [u1 (t.channel c).state.code, u2 (t.channel c).applied]) ∧
    s.toGarden.sameBeyondBench t.toGarden ∧ (t.channel c).state ≠ .tripped ∧
    (∀ d, d ≠ c → ((t.channel d).state = .tripped ↔ (s.channel d).state = .tripped)) ∧
    (∀ f, s.power.channelOf f = some c →
      (f = .filterPump ∨ f = .backwashValve → s.water.filter.state = .fault .channelTrip →
        (t.power.fnTripped .filterPump = true ∨ t.power.fnTripped .backwashValve = true →
          t.water.filter = s.water.filter) ∧
        (t.power.fnTripped .filterPump = false → t.power.fnTripped .backwashValve = false →
          (s.water.starved = true → t.water.filter.state = .starved) ∧
          (s.water.starved = false → t.water.filter.state = .searching ∨ t.water.filter.state = .locked ∨
            t.water.filter.state = .fault .noPower))) ∧
      (f = .topupValve → s.water.topup = .tripped → (s.water.demand = false → t.water.topup = .closed) ∧
        (s.water.demand = true → s.water.cfg.capMinutes * 60 ≤ s.water.capCount → t.water.topup = .capped ∧
          s.toBench.told t.toBench (.topupCapped s.water.capCount (s.water.cfg.capMinutes * 60))) ∧
        (s.water.demand = true → s.water.capCount < s.water.cfg.capMinutes * 60 →
          (s.load topupLoad).askA ≠ s.water.cfg.topupWatts → t.water.topup =
          if (t.load topupLoad).askA ≤ (t.load topupLoad).grantA then .opened else .waitPower)) ∧
      (f = .fountainPump → t.water.causes.trip = false)) ∧
    ((t.channel c).requested = 0 → (t.channel c).applied = 0) ∧
    ((t.channel c).requested ≠ 0 → (∀ x ∈ (s.channel c).lastSwitch, x + (s.channel c).cfg.interval * 1000 ≤ s.now) →
      (t.channel c).applied = (t.channel c).requested ∧ (t.channel c).state = .driving ∧
      (t.channel c).lastSwitch = some s.now) ∧
    (∀ x ∈ (s.channel c).lastSwitch, (t.channel c).requested ≠ 0 → s.now < x + (s.channel c).cfg.interval * 1000 →
      (t.channel c).applied = 0 ∧ (t.channel c).holdExpiry = some (x + (s.channel c).cfg.interval * 1000)) ∧
    t.toBench.calm =
      (s.toBench.setChannel c { s.channel c with state := .idle, applied := 0 }).calm) ∧
  (∀ (s : State) (c : ChannelId), s.takes (.channelReset (.fields (c.val + 1))) → (s.channel c).state ≠ .tripped →
    exec (.channelReset (.fields (c.val + 1))) s = .next (s.answer s.toGarden (.refused .inconsistent []))) ∧
  (∀ (s : State) (n : Nat), s.takes (.channelReset (.fields n)) → n = 0 ∨ 24 < n →
    exec (.channelReset (.fields n)) s = .next (s.answer s.toGarden (.refused .noSuch [])))
end

