-- ==== Sys2Proof/Laws/Settle.lean ====
section
/-! SUPPORT. What the settling of an allocation leaves alone. `Bench.calm` blanks everything that owners may
change while they act on grants (R171); every operation of the settling has the same `calm` after as
before, so a field that `calm` keeps is unchanged: take `congrArg` of it. -/

namespace Sys2Proof.Machine

/-! ### Tables -/

/-- Writing a record that maps to what the old one maps to leaves the mapped table alone. -/
theorem map_tset {n : Nat} {α β : Type} (f : α → β) (v : Vector α n) (i : Fin n) (x : α)
    (h : f x = f (tget v i)) : (tset v i x).map f = v.map f := by
  ext j hj
  simp only [tset, tget, Vector.getElem_map, Vector.getElem_set] at *
  split
  · next e => subst e; exact h
  · rfl

/-- A fold whose steps leave a measure alone leaves it alone. -/
theorem foldl_keeps {α β γ : Type} (m : β → γ) (f : β → α → β) (h : ∀ b a, m (f b a) = m b) (l : List α) (b : β) :
    m (l.foldl f b) = m b := by
  induction l generalizing b with
  | nil => rfl
  | cons a l ih => rw [List.foldl_cons, ih, h]

theorem mapZones_keeps {γ : Type} (m : Zone → γ) (f : Zone → Zone) (h : ∀ z, m (f z) = m z) (g : MapUnit) :
    (g.mapZones f).zones.map m = g.zones.map m ∧ (g.mapZones f).grid = g.grid ∧
      (g.mapZones f).blockList = g.blockList := by
  have := foldl_keeps (fun u : MapUnit => (u.zones.map m, u.grid, u.blockList))
    (fun u z => u.setZone z (f (u.zone z)))
    (fun u z => by simp [MapUnit.setZone, MapUnit.zone, map_tset m _ _ _ (h _)]) (List.finRange 48) g
  simpa [MapUnit.mapZones] using this

theorem map_foldl_tset {n : Nat} {α β : Type} (f : α → β) (h : α → α) (hf : ∀ x, f (h x) = f x) (l : List (Fin n))
    (v : Vector α n) : (l.foldl (fun v i => tset v i (h (tget v i))) v).map f = v.map f :=
  foldl_keeps (fun v : Vector α n => v.map f) _ (fun v i => map_tset f v i _ (hf _)) l v

/-! ### Zones' marks -/

@[simp] theorem Zone.calm_setMark (z : Zone) (k : Mark) (s : MarkState) : (z.setMark k s).calm = z.calm := by
  cases k <;> rfl

theorem MapUnit.mapZones_calm (g : MapUnit) (f : Zone → Zone) (h : ∀ z, (f z).calm = z.calm) :
    { g.mapZones f with zones := (g.mapZones f).zones.map Zone.calm } = { g with zones := g.zones.map Zone.calm } := by
  obtain ⟨h1, h2, h3⟩ := mapZones_keeps Zone.calm f h g
  dsimp only
  rw [h1, h2, h3]

/-- A change of the map that leaves the calm zones, the cells and the block list alone. -/
theorem Bench.calm_ground (b : Bench) (m : MapUnit)
    (h : { m with zones := m.zones.map Zone.calm } = { b.ground with zones := b.ground.zones.map Zone.calm }) :
    { b with ground := m }.calm = b.calm := by
  simp only [Bench.calm, h]

@[simp] theorem Bench.calm_clearSplash (b : Bench) (n : Nozzle) (t : Nat) :
    { b with ground := b.ground.clearSplash n t }.calm = b.calm :=
  b.calm_ground _ (MapUnit.mapZones_calm _ _ (fun z => by simp))

@[simp] theorem Bench.calm_requestSplash (b : Bench) (n : Nozzle) :
    { b with ground := b.ground.requestSplash n }.calm = b.calm := by
  refine b.calm_ground _ ?_
  unfold MapUnit.requestSplash
  split
  · exact MapUnit.mapZones_calm _ _ (fun z => by split <;> simp)
  · rfl

@[simp] theorem Bench.calm_startDrain (b : Bench) (t : Nat) :
    { b with ground := b.ground.startDrain t }.calm = b.calm :=
  b.calm_ground _ (MapUnit.mapZones_calm _ _ (fun z => by simp))

/-! ### Reports, asks, channels -/

theorem Reports.add_mask (q : Reports) (t : Stamp) (r : ReportBody) : (q.add t r).mask = q.mask := by
  unfold Reports.add
  repeat' split
  all_goals rfl

@[simp] theorem Bench.calm_post (b : Bench) (r : ReportBody) : (b.post r).calm = b.calm := by
  simp [Bench.post, Bench.calm, Reports.add_mask]

@[simp] theorem Bench.calm_postAsk (b : Bench) (i : LoadId) (x y : Nat) : (b.postAsk i x y).calm = b.calm := by
  unfold Bench.postAsk
  dsimp only
  split <;> rfl

@[simp] theorem Bench.calm_callForGrant (b : Bench) (i : LoadId) : (b.callForGrant i).calm = b.calm := rfl

@[simp] theorem Bench.calm_callAllocation (b : Bench) : b.callAllocation.calm = b.calm := rfl

@[simp] theorem Channel.calm_judge (c : Channel) (now : Nat) : (c.judge now).calm = c.calm := by
  unfold Channel.judge
  split
  · rfl
  · next h =>
    have hd : ∀ l, (c.drive l).state ≠ .tripped := fun l => by unfold Channel.drive; dsimp only; split <;> decide
    repeat' split
    all_goals simp [Channel.calm, Channel.drive, h]
    all_goals split <;> simp

@[simp] theorem Channel.calm_requested (c : Channel) (l : Nat) : { c with requested := l }.calm = c.calm := rfl

@[simp] theorem Channel.calm_frequency (c : Channel) (l : Nat) : { c with frequency := l }.calm = c.calm := rfl

@[simp] theorem Channel.calm_request (c : Channel) (l now : Nat) : (c.request l now).calm = c.calm := by
  unfold Channel.request
  split <;> simp

@[simp] theorem Bench.calm_carry (b : Bench) (f : Fn) : (b.carry f).calm = b.calm := by
  unfold Bench.carry
  split
  · rfl
  · simp [Bench.calm, PowerUnit.calm, map_tset]

/-! ### WU -/

/-- A change of WU that `calm` does not see. -/
theorem Bench.calm_setWater (b : Bench) (w : WaterUnit) (h : w.calm = b.water.calm) : (b.setWater w).calm = b.calm := by
  simp [Bench.setWater, Bench.calm, h]

@[simp] theorem Bench.calm_moveTopup (b : Bench) (s : TopupState) : (b.moveTopup s).calm = b.calm := by
  simp only [Bench.moveTopup, Bench.calm_postAsk, Bench.calm_carry]
  exact b.calm_setWater _ rfl

@[simp] theorem Bench.calm_capTopup (b : Bench) : b.capTopup.calm = b.calm := by simp [Bench.capTopup]

@[simp] theorem Bench.calm_takeDemand (b : Bench) : b.takeDemand.calm = b.calm := by
  unfold Bench.takeDemand
  repeat' split
  all_goals simp

@[simp] theorem Bench.calm_endDemand (b : Bench) : b.endDemand.calm = b.calm := by
  unfold Bench.endDemand
  split <;> simp

@[simp] theorem Bench.calm_topupGrant (b : Bench) : b.topupGrant.calm = b.calm := by
  unfold Bench.topupGrant
  repeat' split
  all_goals simp

@[simp] theorem Bench.calm_postFilter (b : Bench) : b.postFilter.calm = b.calm := by
  unfold Bench.postFilter
  dsimp only
  split <;> simp

@[simp] theorem Bench.calm_reportFilter (b : Bench) (old : Filter) : (b.reportFilter old).calm = b.calm := by
  unfold Bench.reportFilter
  dsimp only
  split <;> simp

/-- A filter record with the latest gate result of the one it replaces. -/
theorem Bench.calm_putFilter (b : Bench) (f : Filter) (h : f.lastGate = b.water.filter.lastGate) :
    (b.putFilter f).calm = b.calm := by
  simp only [Bench.putFilter, Bench.calm_carry]
  exact b.calm_setWater _ (by simp [WaterUnit.calm, h])

theorem Bench.calm_moveFilter (b : Bench) (f : Filter) (h : f.lastGate = b.water.filter.lastGate) :
    (b.moveFilter f).calm = b.calm := by
  simp [Bench.moveFilter, b.calm_putFilter f h]

@[simp] theorem Filter.halted_lastGate (f : Filter) (s : FilterState) : (f.halted s).lastGate = f.lastGate := rfl

@[simp] theorem Filter.toSearching_lastGate (f : Filter) (c : WaterCfg) : (f.toSearching c).lastGate = f.lastGate := rfl

@[simp] theorem Filter.toLocked_lastGate (f : Filter) (c : WaterCfg) (now step pump : Nat) (fom : Option Int)
    (l : Option Limit) : (f.toLocked c now step pump fom l).lastGate = f.lastGate := rfl

/-! ### SE's height chain -/

@[simp] theorem Bench.calm_setHeights (b : Bench) (n : Nozzle) (h : Heights) : (b.setHeights n h).calm = b.calm := rfl

@[simp] theorem Bench.calm_setHeld (b : Bench) (n : Nozzle) (v : Bool) : (b.setHeld n v).calm = b.calm := rfl

@[simp] theorem Bench.calm_dropSplash (b : Bench) (n : Nozzle) : (b.dropSplash n).calm = b.calm := by
  simp [Bench.dropSplash]

@[simp] theorem Bench.calm_splashNozzle (b : Bench) (n : Nozzle) : (b.splashNozzle n).calm = b.calm := by
  unfold Bench.splashNozzle
  dsimp only
  repeat' split
  all_goals simp

@[simp] theorem Bench.calm_chainFront (b : Bench) : b.chainFront.calm = b.calm := by
  simp [Bench.chainFront, foldl_keeps Bench.calm]

@[simp] theorem Bench.calm_capNozzle (b : Bench) (n : Nozzle) : (b.capNozzle n).calm = b.calm := by
  simp [Bench.capNozzle]

@[simp] theorem Bench.calm_chainBack (b : Bench) : b.chainBack.calm = b.calm := by
  simp [Bench.chainBack, foldl_keeps Bench.calm]

@[simp] theorem Bench.calm_chain (b : Bench) : b.chain.calm = b.calm := by
  unfold Bench.chain
  dsimp only
  split <;> simp

@[simp] theorem Bench.calm_fountainGrant (b : Bench) : b.fountainGrant.calm = b.calm := by
  simp [Bench.fountainGrant]

@[simp] theorem Bench.calm_noteDry (b : Bench) : b.noteDry.calm = b.calm := by
  unfold Bench.noteDry
  split
  · rfl
  · simp only [Bench.calm_chain, Bench.calm_post]; rfl

@[simp] theorem Bench.calm_reformSupply (b : Bench) : b.reformSupply.calm = b.calm := by
  have h : ∀ c, (b.setWater { b.water with causes := c }).calm = b.calm := fun c => b.calm_setWater _ rfl
  unfold Bench.reformSupply
  dsimp only
  repeat' split
  all_goals simp [h]

/-! ### The filter's answers -/

theorem Bench.calm_endBackwash (b : Bench) (f : Filter) (h : f.lastGate = b.water.filter.lastGate) :
    (b.endBackwash f).calm = b.calm := by
  simp [Bench.endBackwash, Bench.calm_putFilter, h]

theorem Bench.calm_leaveFor (b : Bench) (f : Filter) (h : f.lastGate = b.water.filter.lastGate) :
    (b.leaveFor f).calm = b.calm := by
  unfold Bench.leaveFor
  split <;> simp [Bench.calm_endBackwash, Bench.calm_moveFilter, h]

@[simp] theorem Bench.calm_beginSearch (b : Bench) : b.beginSearch.calm = b.calm := b.calm_moveFilter _ rfl

@[simp] theorem Bench.calm_resumeFilter (b : Bench) : b.resumeFilter.calm = b.calm := by
  unfold Bench.resumeFilter
  split
  · exact b.calm_moveFilter _ rfl
  · simp

@[simp] theorem Bench.calm_reportMarginal (b : Bench) (n : Nat) (x : Option Int) : (b.reportMarginal n x).calm = b.calm := by
  unfold Bench.reportMarginal
  repeat' split
  all_goals simp

@[simp] theorem Bench.calm_lockBest (b : Bench) (n : Nat) (x : Int) : (b.lockBest n x).calm = b.calm := by
  rw [Bench.lockBest, Bench.calm_reportMarginal]
  exact b.calm_moveFilter _ rfl

@[simp] theorem Bench.calm_lockLimited (b : Bench) (s : Search) : (b.lockLimited s).calm = b.calm := by
  rw [Bench.lockLimited, Bench.calm_reportMarginal]
  exact b.calm_moveFilter _ rfl

@[simp] theorem Bench.calm_lockedGrant (b : Bench) : b.lockedGrant.calm = b.calm := by
  unfold Bench.lockedGrant
  dsimp only
  repeat' split
  all_goals first
    | rfl
    | exact b.calm_beginSearch
    | exact b.calm_moveFilter _ rfl
    | exact b.calm_putFilter _ rfl

@[simp] theorem Bench.calm_settleTrial (b : Bench) (s : Search) : (b.settleTrial s).calm = b.calm := by
  exact b.calm_putFilter _ rfl

@[simp] theorem Bench.calm_filterGrant (b : Bench) : b.filterGrant.calm = b.calm := by
  unfold Bench.filterGrant
  repeat' split
  all_goals first
    | rfl
    | exact b.calm_endBackwash _ rfl
    | simp

/-! ### Lamps and chargers -/

/-- A change of a lamp that `calm` does not see. -/
theorem Bench.calm_setLamp (b : Bench) (c : Circuit) (x : LampCircuit) (h : x.calm = (b.lamp c).calm) :
    (b.setLamp c x).calm = b.calm := by
  simp only [Bench.setLamp, Bench.calm, map_tset _ _ _ _ h]

theorem LampState.follow_follow (s : LampState) (l : Nat) : (s.follow l).follow 0 = s.follow 0 := by
  cases s <;> simp only [LampState.follow] <;> split <;> simp_all

@[simp] theorem Bench.calm_setOutput (b : Bench) (c : Circuit) (l : Nat) : (b.setOutput c l).calm = b.calm := by
  rw [Bench.setOutput, Bench.calm_carry]
  exact b.calm_setLamp c _ (by simp [LampCircuit.calm, LampState.follow_follow])

@[simp] theorem Bench.calm_lampGrant (b : Bench) (c : Circuit) : (b.lampGrant c).calm = b.calm := by
  unfold Bench.lampGrant
  split <;> simp

/-- A change of a slot that `calm` does not see. -/
theorem Bench.calm_setSlot (b : Bench) (k : Slot) (x : FleetSlot) (h : x.calm = (b.slot k).calm) :
    { b with fleet := b.fleet.put k x }.calm = b.calm := by
  cases k <;> simp_all [Bench.calm, BySlot.put, Bench.slot, BySlot.get]

@[simp] theorem Bench.calm_setChargerLevel (b : Bench) (k : Slot) : (b.setChargerLevel k).calm = b.calm := by
  simp only [Bench.setChargerLevel, Bench.calm_carry]
  exact b.calm_setSlot k _ rfl

@[simp] theorem Bench.calm_reportMower (b : Bench) (k : Slot) : (b.reportMower k).calm = b.calm := by
  simp [Bench.reportMower]

/-- A mower state that is DOCKED or CHARGING after as before. -/
theorem Bench.calm_setMowerState (b : Bench) (k : Slot) (s : MowerState) (h : s.atDock = true)
    (h' : (b.mower k).state.atDock = true) : (b.setMowerState k s).calm = b.calm := by
  unfold Bench.setMowerState
  split
  · rfl
  · rw [Bench.calm_reportMower]
    refine b.calm_setSlot k _ ?_
    have h'' : (b.slot k).ctx.state.atDock = true := h'
    have h3 : (b.fleet.get k).ctx.state.atDock = true := h'
    simp [FleetSlot.calm, h, h3, Bench.mower, Bench.slot]

@[simp] theorem Bench.calm_chargerTest (b : Bench) (k : Slot) : (b.chargerTest k).calm = b.calm := by
  unfold Bench.chargerTest
  simp only [Bench.calm_setChargerLevel]
  have key : ∀ st, (b.slot k).ctx.state = st → (b.mower k).state = st := fun st h => h
  repeat' split
  all_goals first
    | rfl
    | exact b.calm_setMowerState k _ rfl (by simp [key _ ‹(b.slot k).ctx.state = _›, MowerState.atDock])

/-! ### The settling (R171) -/

@[simp] theorem Bench.calm_react (b : Bench) (i : LoadId) : (b.react i).calm = b.calm := by
  unfold Bench.react
  repeat' split
  all_goals simp

@[simp] theorem Bench.calm_allocate (b : Bench) : b.allocate.calm = b.calm := by
  simp only [Bench.allocate, Bench.calm, PowerUnit.calm]

@[simp] theorem Bench.calm_markAnswered (b : Bench) : b.markAnswered.calm = b.calm := by
  simp only [Bench.markAnswered, Bench.calm, PowerUnit.calm]

@[simp] theorem Bench.calm_allocationRound (b : Bench) : b.allocationRound.calm = b.calm := by
  simp [Bench.allocationRound, foldl_keeps Bench.calm]

@[simp] theorem Bench.calm_settleFor (n : Nat) (b : Bench) : (b.settleFor n).calm = b.calm := by
  induction n generalizing b with
  | zero => rfl
  | succ n ih =>
    unfold Bench.settleFor
    split <;> simp [ih]

/-- The settling of allocations changes nothing that `calm` keeps (R171). -/
@[simp] theorem Bench.calm_settle (b : Bench) : b.settle.calm = b.calm := by simp [Bench.settle]

@[simp] theorem Bench.calm_rechain (b : Bench) : b.rechain.calm = b.calm := by simp [Bench.rechain]

@[simp] theorem Bench.calm_postCharger (b : Bench) (k : Slot) : (b.postCharger k).calm = b.calm := by
  simp [Bench.postCharger]

@[simp] theorem Bench.calm_tendCharger (b : Bench) (k : Slot) : (b.tendCharger k).calm = b.calm := by
  simp [Bench.tendCharger]

end Sys2Proof.Machine
end

