-- ==== Sys2Proof/Laws/Filter.lean ====
section
/-! SUPPORT. The filter against PW's load table: what leaves its record and its posted asks alone, and that every operation
which moves the filter posts the asks of R107 and opens no gate out of its phase. -/

namespace Sys2Proof.Machine

/-! ### What the two invariants read -/

/-- The filter's record, WU's settings, and the asks that PW holds for the filter. -/
def Bench.filterView (b : Bench) : Filter × WaterCfg × Nat × Nat :=
  (b.water.filter, b.water.cfg, (b.load filterLoad).askA, (b.load filterLoad).askB)

theorem Bench.filter_of_view {b c : Bench} (h : c.filterView = b.filterView) : c.water.filter = b.water.filter :=
  congrArg (·.1) h

theorem Bench.posted_of_view {b c : Bench} (h : c.filterView = b.filterView) (p : b.filterPosted) : c.filterPosted := by
  simp only [Bench.filterView, Prod.mk.injEq] at h
  simpa only [Bench.filterPosted, h] using p

/-- The asks of a load, and those of a load table. -/
def Load.asks (l : Load) : Nat × Nat := (l.askA, l.askB)

theorem Bench.view_of_loads {b : Bench} {v : Vector Load 18} {x : Totals} {r : Bool}
    (h : v.map Load.asks = b.power.loads.map Load.asks) :
    { b with power := { b.power with loads := v, totals := x, realloc := r } }.filterView = b.filterView := by
  have e : (tget v filterLoad).asks = (b.load filterLoad).asks := by
    have := congrArg (fun w => tget w filterLoad) h
    simpa [tget, Bench.load] using this
  simp only [Load.asks, Prod.mk.injEq] at e
  simp only [Bench.filterView, Prod.mk.injEq, true_and]
  exact e

/-! ### Operations that leave the view alone -/

@[simp] theorem Bench.filterView_post (b : Bench) (r : ReportBody) : (b.post r).filterView = b.filterView := rfl

@[simp] theorem Bench.filterView_carry (b : Bench) (f : Fn) : (b.carry f).filterView = b.filterView := by
  unfold Bench.carry; split <;> rfl

theorem Bench.filterView_postAsk (b : Bench) (i : LoadId) (x y : Nat) (h : i ≠ filterLoad) :
    (b.postAsk i x y).filterView = b.filterView := by
  unfold Bench.postAsk
  dsimp only
  split
  · rfl
  · simp [Bench.filterView, Bench.load, tget_tset_ne _ _ _ _ h.symm]

@[simp] theorem Bench.filterView_callAllocation (b : Bench) : b.callAllocation.filterView = b.filterView := rfl

@[simp] theorem Bench.filterView_callForGrant (b : Bench) (i : LoadId) : (b.callForGrant i).filterView = b.filterView := by
  simp only [Bench.filterView, Bench.callForGrant, Bench.load, tget_tset]
  split <;> simp_all

@[simp] theorem Bench.filterView_setHeights (b : Bench) (n : Nozzle) (h : Heights) :
    (b.setHeights n h).filterView = b.filterView := rfl

@[simp] theorem Bench.filterView_setHeld (b : Bench) (n : Nozzle) (v : Bool) : (b.setHeld n v).filterView = b.filterView := rfl

@[simp] theorem Bench.filterView_ground (b : Bench) (m : MapUnit) : { b with ground := m }.filterView = b.filterView := rfl

@[simp] theorem Bench.filterView_shows (b : Bench) (u : ShowUnit) : { b with shows := u }.filterView = b.filterView := rfl

@[simp] theorem Bench.filterView_lamp (b : Bench) (c : Circuit) (x : LampCircuit) :
    (b.setLamp c x).filterView = b.filterView := rfl

@[simp] theorem Bench.filterView_fleet (b : Bench) (f : BySlot FleetSlot) : { b with fleet := f }.filterView = b.filterView := rfl

@[simp] theorem Bench.filterView_splashNozzle (b : Bench) (n : Nozzle) : (b.splashNozzle n).filterView = b.filterView := by
  unfold Bench.splashNozzle
  dsimp only
  repeat' split
  all_goals simp [Bench.dropSplash]

@[simp] theorem Bench.filterView_chainFront (b : Bench) : b.chainFront.filterView = b.filterView := by
  simp [Bench.chainFront, Bench.filterView_postAsk _ fountainLoad _ _ (by decide), foldl_keeps Bench.filterView]

@[simp] theorem Bench.filterView_chainBack (b : Bench) : b.chainBack.filterView = b.filterView := by
  simp [Bench.chainBack, Bench.capNozzle, foldl_keeps Bench.filterView]

@[simp] theorem Bench.filterView_chain (b : Bench) : b.chain.filterView = b.filterView := by
  unfold Bench.chain
  dsimp only
  split <;> simp

@[simp] theorem Bench.filterView_fountainGrant (b : Bench) : b.fountainGrant.filterView = b.filterView := by
  simp [Bench.fountainGrant]

@[simp] theorem Bench.filterView_noteDry (b : Bench) : b.noteDry.filterView = b.filterView := by
  unfold Bench.noteDry
  split <;> simp

@[simp] theorem Bench.filterView_reformSupply (b : Bench) : b.reformSupply.filterView = b.filterView := by
  have h : ∀ c, (b.setWater { b.water with causes := c }).filterView = b.filterView := fun _ => rfl
  unfold Bench.reformSupply
  dsimp only
  repeat' split
  all_goals simp [h]

@[simp] theorem Bench.filterView_moveTopup (b : Bench) (s : TopupState) : (b.moveTopup s).filterView = b.filterView := by
  have h : (b.setWater { b.water with topup := s }).filterView = b.filterView := rfl
  simp [Bench.moveTopup, Bench.filterView_postAsk _ topupLoad _ _ (by decide), h]

@[simp] theorem Bench.filterView_topupGrant (b : Bench) : b.topupGrant.filterView = b.filterView := by
  unfold Bench.topupGrant
  repeat' split
  all_goals simp

@[simp] theorem Bench.filterView_lampGrant (b : Bench) (c : Circuit) : (b.lampGrant c).filterView = b.filterView := by
  unfold Bench.lampGrant
  split <;> simp [Bench.setOutput]

@[simp] theorem Bench.filterView_setMowerState (b : Bench) (k : Slot) (s : MowerState) :
    (b.setMowerState k s).filterView = b.filterView := by
  unfold Bench.setMowerState
  split <;> simp [Bench.reportMower, Bench.setMower]

@[simp] theorem Bench.filterView_chargerTest (b : Bench) (k : Slot) : (b.chargerTest k).filterView = b.filterView := by
  unfold Bench.chargerTest Bench.setChargerLevel
  dsimp only
  repeat' split
  all_goals simp

@[simp] theorem Bench.filterView_reportFilter (b : Bench) (f : Filter) : (b.reportFilter f).filterView = b.filterView := by
  unfold Bench.reportFilter
  dsimp only
  split <;> simp

@[simp] theorem Bench.filterView_reportMarginal (b : Bench) (n : Nat) (x : Option Int) :
    (b.reportMarginal n x).filterView = b.filterView := by
  unfold Bench.reportMarginal
  repeat' split
  all_goals simp

theorem writeGrants_asks (first : Bool) (is : List LoadId) (gs : List Nat) (v : Vector Load 18) :
    (writeGrants first v is gs).map Load.asks = v.map Load.asks := by
  induction is generalizing gs v with
  | nil => simp [writeGrants]
  | cons i is ih =>
    cases gs with
    | nil => simp [writeGrants]
    | cons g gs =>
      simp only [writeGrants, ih]
      exact map_tset _ _ _ _ (by split <;> rfl)

@[simp] theorem Bench.filterView_allocate (b : Bench) : b.allocate.filterView = b.filterView := by
  unfold Bench.allocate
  exact Bench.view_of_loads (by simp only [allocateClass, writeGrants_asks])

@[simp] theorem Bench.filterView_markAnswered (b : Bench) : b.markAnswered.filterView = b.filterView := by
  unfold Bench.markAnswered
  exact Bench.view_of_loads (map_foldl_tset Load.asks (fun l => { l with asked := false }) (fun _ => rfl) _ _)

/-! ### Operations that move the filter -/

theorem Bench.filter_putFilter (b : Bench) (f : Filter) : (b.putFilter f).water.filter = f := by
  have h := Bench.filter_of_view (b := b.setWater { b.water with filter := f }) (c := b.putFilter f) (by simp [Bench.putFilter])
  exact h

/-- A new record whose posted asks are the ones that the old record had keeps them posted. -/
theorem Bench.posted_putFilter {b : Bench} (f : Filter) (h : (b.setWater { b.water with filter := f }).filterPosted) :
    (b.putFilter f).filterPosted :=
  Bench.posted_of_view (by simp [Bench.putFilter]) h

theorem Bench.filter_postFilter (b : Bench) : b.postFilter.water.filter = b.water.filter := by
  unfold Bench.postFilter Bench.postAsk
  dsimp only
  repeat' split
  all_goals rfl

/-- Posting the filter's asks posts those of R107, whatever stood there. -/
theorem Bench.posted_postFilter (b : Bench) : b.postFilter.filterPosted := by
  have key : ∀ x y, (b.postAsk filterLoad x y).water = b.water ∧ ((b.postAsk filterLoad x y).load filterLoad).askA = x ∧
      ((b.postAsk filterLoad x y).load filterLoad).askB = y := by
    intro x y
    unfold Bench.postAsk
    dsimp only
    split
    · next h => exact ⟨rfl, h⟩
    · exact ⟨rfl, by simp [Bench.load]⟩
  obtain ⟨hw, ha, hb⟩ := key b.water.filterAsks.1 b.water.filterAsks.2
  have posted : (b.postAsk filterLoad b.water.filterAsks.1 b.water.filterAsks.2).filterPosted := by
    simp only [Bench.filterPosted, hw, ha, hb]
    unfold WaterUnit.filterAsks
    cases hs : b.water.filter.state with
    | searching => cases hr : b.water.filter.search <;> simp
    | locked => cases hl : b.water.filter.limit <;> simp
    | fault c => cases c <;> simp
    | _ => simp
  unfold Bench.postFilter
  dsimp only
  split
  · exact Bench.posted_of_view (by simp) posted
  · exact posted

theorem Bench.filter_moveFilter (b : Bench) (f : Filter) : (b.moveFilter f).water.filter = f := by
  rw [Bench.moveFilter, Bench.filter_postFilter, Bench.filter_of_view (Bench.filterView_reportFilter _ _), b.filter_putFilter]

theorem Bench.posted_moveFilter (b : Bench) (f : Filter) : (b.moveFilter f).filterPosted := Bench.posted_postFilter _

theorem Bench.filter_endBackwash (b : Bench) (f : Filter) :
    (b.endBackwash f).water.filter = { f with lastBackwashEnd := some b.now, backwashExpiry := none } := by
  unfold Bench.endBackwash
  dsimp only
  rw [Bench.filter_postFilter, Bench.filter_of_view (Bench.filterView_reportFilter _ _),
    Bench.filter_of_view (Bench.filterView_reformSupply _), Bench.filter_of_view (Bench.filterView_ground _ _),
    b.filter_putFilter]

theorem Bench.posted_endBackwash (b : Bench) (f : Filter) : (b.endBackwash f).filterPosted := Bench.posted_postFilter _

theorem Bench.posted_beginSearch (b : Bench) : b.beginSearch.filterPosted := b.posted_moveFilter _

theorem Bench.posted_resumeFilter (b : Bench) : b.resumeFilter.filterPosted := by
  unfold Bench.resumeFilter
  split
  · exact b.posted_moveFilter _
  · exact b.posted_beginSearch

theorem Bench.posted_leaveFor (b : Bench) (f : Filter) : (b.leaveFor f).filterPosted := by
  unfold Bench.leaveFor
  split
  · exact b.posted_endBackwash f
  · exact b.posted_moveFilter f

theorem Bench.posted_lockBest (b : Bench) (n : Nat) (x : Int) : (b.lockBest n x).filterPosted :=
  Bench.posted_of_view (Bench.filterView_reportMarginal _ _ _) (b.posted_moveFilter _)

theorem Bench.posted_lockLimited (b : Bench) (s : Search) : (b.lockLimited s).filterPosted :=
  Bench.posted_of_view (Bench.filterView_reportMarginal _ _ _) (b.posted_moveFilter _)

theorem Bench.state_lockLimited (b : Bench) (s : Search) : (b.lockLimited s).water.filter.state = .locked := by
  simp only [Bench.lockLimited, Bench.filter_of_view (Bench.filterView_reportMarginal _ _ _), Bench.filter_moveFilter]
  rfl

/-- A change of a lock's pump step alone. -/
theorem Bench.posted_step {b : Bench} (n : Nat) (h : b.filterPosted) :
    (b.putFilter { b.water.filter with step := n }).filterPosted :=
  Bench.posted_putFilter _ h

theorem Bench.posted_lockedGrant {b : Bench} (h : b.filterPosted) : b.lockedGrant.filterPosted := by
  unfold Bench.lockedGrant
  dsimp only
  repeat' split
  all_goals first
    | exact h
    | exact b.posted_moveFilter _
    | exact b.posted_beginSearch
    | exact Bench.posted_step _ h

/-- A grant to the filter leaves its posted asks those of its state (R107, R114, R119, R120). -/
theorem Bench.posted_filterGrant {b : Bench} (h : b.filterPosted) : b.filterGrant.filterPosted := by
  unfold Bench.filterGrant
  split
  · next hs =>
    split
    · exact h
    · next s hr =>
      split
      · exact Bench.posted_lockedGrant (b.posted_lockLimited s)
      · split
        · refine Bench.posted_putFilter _ ?_
          simp only [Bench.filterPosted, hs, hr] at h
          simpa [Bench.filterPosted, Bench.setWater, Bench.load, hs] using h
        · exact h
  · exact Bench.posted_lockedGrant h
  · split
    · exact b.posted_endBackwash _
    · exact h
  · split
    · exact b.posted_resumeFilter
    · exact h
  all_goals exact h

/-! ### Gates -/

theorem Filter.gate_halted (f : Filter) (s : FilterState) : (f.halted s).gateInPhase := nofun

theorem Filter.gate_toSearching (f : Filter) (c : WaterCfg) : (f.toSearching c).gateInPhase := nofun

theorem Filter.gate_toLocked (f : Filter) (c : WaterCfg) (now step pump : Nat) (fom : Option Int) (l : Option Limit) :
    (f.toLocked c now step pump fom l).gateInPhase := nofun

theorem Bench.gate_resumeFilter (b : Bench) : b.resumeFilter.water.filter.gateInPhase := by
  unfold Bench.resumeFilter
  split
  · rw [Bench.filter_moveFilter]; exact Filter.gate_halted _ _
  · rw [Bench.beginSearch, Bench.filter_moveFilter]; exact Filter.gate_toSearching _ _

theorem Bench.gate_lockedGrant {b : Bench} (hs : b.water.filter.state = .locked) :
    b.lockedGrant.water.filter.gateInPhase := by
  have lock : ∀ f : Filter, f.state = .locked → f.gateInPhase := fun f h _ => .inl h
  unfold Bench.lockedGrant
  dsimp only
  repeat' split
  all_goals first
    | exact lock _ hs
    | (rw [Bench.filter_moveFilter]; first | exact Filter.gate_halted _ _ | exact lock _ hs)
    | (rw [Bench.beginSearch, Bench.filter_moveFilter]; exact Filter.gate_toSearching _ _)
    | (rw [Bench.filter_putFilter]; exact lock _ hs)

/-- A grant to the filter opens no gate, and closes one with the trial or the lock that it belongs to. -/
theorem Bench.gate_filterGrant {b : Bench} (h : b.water.filter.gateInPhase) : b.filterGrant.water.filter.gateInPhase := by
  unfold Bench.filterGrant
  split
  · next hs =>
    split
    · exact h
    · next s hr =>
      split
      · exact Bench.gate_lockedGrant (b.state_lockLimited s)
      · split
        · next hp =>
          rw [Bench.settleTrial, Bench.filter_putFilter]
          intro hg
          have := h hg
          simp [hs, hr, hp] at this
        · exact h
  · next hs => exact Bench.gate_lockedGrant hs
  · split
    · rw [Bench.filter_endBackwash]; exact nofun
    · exact h
  · split
    · exact b.gate_resumeFilter
    · exact h
  all_goals exact h

/-! ### The settling (R171) -/

/-- The filter's two invariants together. -/
def Bench.filterSound (b : Bench) : Prop := b.filterPosted ∧ b.water.filter.gateInPhase

theorem Bench.sound_of_view {b c : Bench} (h : c.filterView = b.filterView) (p : b.filterSound) : c.filterSound :=
  ⟨Bench.posted_of_view h p.1, by rw [Bench.filter_of_view h]; exact p.2⟩

theorem Bench.sound_react {b : Bench} (i : LoadId) (h : b.filterSound) : (b.react i).filterSound := by
  unfold Bench.react
  split
  · exact ⟨Bench.posted_filterGrant h.1, Bench.gate_filterGrant h.2⟩
  · refine Bench.sound_of_view ?_ h
    repeat' split
    all_goals simp

theorem Bench.sound_allocationRound {b : Bench} (h : b.filterSound) : b.allocationRound.filterSound := by
  have fold : ∀ (l : List LoadId) (c : Bench), c.filterSound → (l.foldl Bench.react c).filterSound := by
    intro l
    induction l with
    | nil => exact fun _ h => h
    | cons i l ih => exact fun c h => ih _ (Bench.sound_react i h)
  exact fold _ _ (Bench.sound_of_view (by simp) h)

/-- The settling of allocations keeps the filter's asks posted and its gate in its phase. -/
theorem Bench.sound_settle {b : Bench} (h : b.filterSound) : b.settle.filterSound := by
  have run : ∀ (n : Nat) (c : Bench), c.filterSound → (c.settleFor n).filterSound := by
    intro n
    induction n with
    | zero => exact fun _ h => h
    | succ n ih =>
      intro c h
      unfold Bench.settleFor
      split
      · exact ih _ (Bench.sound_allocationRound h)
      · exact h
  exact run 64 b h

end Sys2Proof.Machine
end

