-- ==== Sys2Proof/Laws/Grid.lean ====
section
/-! SUPPORT. The cell grid: reading after writing, reading after a change of every record, and the canonical
form, which every operation keeps (R1). -/

namespace Sys2Proof.Machine

theorem Grid.wf_iff (g : Grid) :
    Grid.wf g = true ↔ g.Pairwise (fun p q => p.1 < q.1) ∧ ∀ p ∈ g, p.1 < 6144 ∧ p.2 ≠ Cell.blank := by
  simp [Grid.wf]

theorem Grid.wf_cons {k : Nat} {c : Cell} {g : Grid} :
    Grid.wf ((k, c) :: g) = true ↔ (∀ p ∈ g, k < p.1) ∧ k < 6144 ∧ c ≠ Cell.blank ∧ Grid.wf g = true := by
  simp only [Grid.wf_iff, List.pairwise_cons, List.mem_cons, forall_eq_or_imp]
  tauto

/-- A key below every listed key holds the blank record. -/
theorem Grid.find_below (g : Grid) (n : Nat) (h : ∀ p ∈ g, n < p.1) : g.find n = Cell.blank := by
  cases g with
  | nil => rfl
  | cons p g =>
    obtain ⟨k, c⟩ := p
    have : n < k := h _ List.mem_cons_self
    simp [Grid.find, this, Nat.ne_of_lt this]

theorem Grid.mem_put {g : Grid} {n : Nat} {x : Cell} {p : Nat × Cell} (h : p ∈ g.put n x) : p ∈ g ∨ p = (n, x) := by
  induction g with
  | nil =>
    unfold Grid.put at h
    split at h <;> simp_all
  | cons q g ih =>
    obtain ⟨k, c⟩ := q
    unfold Grid.put at h
    split at h
    · split at h
      · simp_all
      · simp_all
        tauto
    · split at h
      · split at h
        · simp_all
        · simp_all
          tauto
      · rcases List.mem_cons.mp h with h | h
        · simp [h]
        · rcases ih h with h | h <;> simp [h]

/-- Writing keeps the canonical form. -/
theorem Grid.wf_put {g : Grid} (h : Grid.wf g = true) (n : Nat) (hn : n < 6144) (x : Cell) : Grid.wf (g.put n x) = true := by
  induction g with
  | nil =>
    unfold Grid.put
    split
    · exact h
    · next hx => rw [Grid.wf_cons]; exact ⟨by simp, hn, hx, by decide⟩
  | cons q g ih =>
    obtain ⟨k, c⟩ := q
    obtain ⟨h1, h2, h3, h4⟩ := Grid.wf_cons.mp h
    unfold Grid.put
    split
    · next e =>
      subst e
      split
      · exact h4
      · next hx => exact Grid.wf_cons.mpr ⟨h1, h2, hx, h4⟩
    · split
      · next hlt =>
        split
        · exact h
        · next hx =>
          refine Grid.wf_cons.mpr ⟨?_, hn, hx, h⟩
          intro p hp
          rcases List.mem_cons.mp hp with rfl | hp
          · exact hlt
          · exact Nat.lt_trans hlt (h1 p hp)
      · next hne hge =>
        refine Grid.wf_cons.mpr ⟨?_, h2, h3, ih h4⟩
        intro p hp
        rcases Grid.mem_put hp with hp | rfl
        · exact h1 p hp
        · show k < n
          omega

/-- Reading after a write. -/
theorem Grid.find_put {g : Grid} (h : Grid.wf g = true) (n : Nat) (x : Cell) (m : Nat) :
    (g.put n x).find m = if m = n then x else g.find m := by
  induction g with
  | nil =>
    unfold Grid.put
    split
    · next hx => subst hx; simp [Grid.find]
    · simp only [Grid.find]
      split
      · rfl
      · split <;> rfl
  | cons q g ih =>
    obtain ⟨k, c⟩ := q
    obtain ⟨h1, h2, h3, h4⟩ := Grid.wf_cons.mp h
    unfold Grid.put
    split
    · next e =>
      subst e
      split
      · next hx =>
        subst hx
        by_cases hm : m = n
        · subst hm; simpa using Grid.find_below g m h1
        · simp only [hm, if_false, Grid.find]
          split
          · next hlt => exact Grid.find_below g m (fun p hp => Nat.lt_trans hlt (h1 p hp))
          · rfl
      · by_cases hm : m = n <;> simp [Grid.find, hm]
    · next hne =>
      split
      · next hlt =>
        split
        · next hx =>
          subst hx
          by_cases hm : m = n
          · subst hm
            simp [Grid.find, hne, hlt]
          · simp [hm]
        · by_cases hm : m = n
          · subst hm; simp [Grid.find]
          · simp only [Grid.find, hm, if_false]
            by_cases hmk : m < n
            · have : m ≠ k := by omega
              have : m < k := by omega
              simp [*]
            · simp [hmk]
      · next hge =>
        by_cases hm : m = n
        · subst hm
          simp [Grid.find, hne, hge, ih h4]
        · simp only [Grid.find, ih h4, hm, if_false]

theorem Grid.mem_remap {f : Cell → Cell} {g : Grid} {p : Nat × Cell} (h : p ∈ g.remap f) :
    ∃ q ∈ g, p = (q.1, f q.2) := by
  simp only [Grid.remap, List.mem_filter, List.mem_map] at h
  obtain ⟨⟨q, hq, rfl⟩, -⟩ := h
  exact ⟨q, hq, rfl⟩

/-- A change of every record keeps the canonical form. -/
theorem Grid.wf_remap {g : Grid} (h : Grid.wf g = true) (f : Cell → Cell) : Grid.wf (g.remap f) = true := by
  rw [Grid.wf_iff] at *
  refine ⟨?_, ?_⟩
  · have := h.1
    unfold Grid.remap
    exact List.Pairwise.filter _ (List.Pairwise.map _ (fun _ _ hpq => hpq) this)
  · intro p hp
    have h2 := hp
    simp only [Grid.remap, List.mem_filter, decide_eq_true_eq] at h2
    obtain ⟨q, hq, rfl⟩ := Grid.mem_remap hp
    exact ⟨(h.2 q hq).1, h2.2⟩

/-- Reading after a change of every record. -/
theorem Grid.find_remap {g : Grid} (h : Grid.wf g = true) (f : Cell → Cell) (hf : f Cell.blank = Cell.blank) (n : Nat) :
    (g.remap f).find n = f (g.find n) := by
  induction g with
  | nil => simp [Grid.remap, Grid.find, hf]
  | cons q g ih =>
    obtain ⟨k, c⟩ := q
    obtain ⟨h1, h2, h3, h4⟩ := Grid.wf_cons.mp h
    have low : ∀ p ∈ Grid.remap f g, k < p.1 := by
      intro p hp
      obtain ⟨q, hq, rfl⟩ := Grid.mem_remap hp
      exact h1 q hq
    have e : Grid.remap f ((k, c) :: g) = if f c ≠ Cell.blank then (k, f c) :: Grid.remap f g else Grid.remap f g := by
      simp [Grid.remap, List.filter_cons]
    rw [e]
    by_cases hn : n = k
    · subst hn
      split
      · simp [Grid.find]
      · next hb =>
        rw [Grid.find_below _ _ low]
        simp only [Grid.find, if_true]
        simpa using Eq.symm (Classical.not_not.mp hb)
    · by_cases hlt : n < k
      · rw [Grid.find_below]
        · simp [Grid.find, hn, hlt, hf]
        · intro p hp
          split at hp
          · rcases List.mem_cons.mp hp with rfl | hp
            · exact hlt
            · exact Nat.lt_trans hlt (low p hp)
          · exact Nat.lt_trans hlt (low p hp)
      · split
        · simp [Grid.find, hn, hlt, ih h4]
        · simp [Grid.find, hn, hlt, ih h4]

theorem CellAddr.key_lt (a : CellAddr) : a.key < 6144 := by
  have := a.row.isLt
  have := a.col.isLt
  unfold CellAddr.key
  omega

theorem CellAddr.key_inj {a b : CellAddr} (h : a.key = b.key) : a = b := by
  obtain ⟨⟨c, hc⟩, ⟨r, hr⟩⟩ := a
  obtain ⟨⟨c', hc'⟩, ⟨r', hr'⟩⟩ := b
  simp only [CellAddr.key] at h
  simp only [CellAddr.mk.injEq, Fin.mk.injEq]
  omega

theorem CellAddr.ofKey_key (a : CellAddr) : CellAddr.ofKey a.key = a := by
  obtain ⟨⟨c, hc⟩, ⟨r, hr⟩⟩ := a
  simp only [CellAddr.key, CellAddr.ofKey, CellAddr.mk.injEq, Fin.mk.injEq]
  omega

theorem CellAddr.key_ofKey (n : Nat) (h : n < 6144) : (CellAddr.ofKey n).key = n := by
  simp only [CellAddr.key, CellAddr.ofKey]
  omega

/-! ### The map's reads and writes -/

/-- Reading a cell after one was written. -/
theorem MapUnit.cell_setCell (m : MapUnit) (h : m.grid.wf = true) (a b : CellAddr) (c : Cell) :
    (m.setCell a c).cell b = if b = a then c else m.cell b := by
  simp only [MapUnit.cell, MapUnit.setCell, Grid.find_put h]
  by_cases e : b = a
  · simp [e]
  · have : b.key ≠ a.key := fun hk => e (CellAddr.key_inj hk)
    simp [e, this]

theorem MapUnit.wf_setCell (m : MapUnit) (h : m.grid.wf = true) (a : CellAddr) (c : Cell) :
    (m.setCell a c).grid.wf = true := Grid.wf_put h _ a.key_lt c

@[simp] theorem MapUnit.setCell_zones (m : MapUnit) (a : CellAddr) (c : Cell) : (m.setCell a c).zones = m.zones := rfl

@[simp] theorem MapUnit.setCell_blockList (m : MapUnit) (a : CellAddr) (c : Cell) :
    (m.setCell a c).blockList = m.blockList := rfl

@[simp] theorem MapUnit.setZone_grid (m : MapUnit) (z : ZoneId) (r : Zone) : (m.setZone z r).grid = m.grid := rfl

@[simp] theorem MapUnit.setZone_blockList (m : MapUnit) (z : ZoneId) (r : Zone) :
    (m.setZone z r).blockList = m.blockList := rfl

@[simp] theorem MapUnit.setZone_cell (m : MapUnit) (z : ZoneId) (r : Zone) (a : CellAddr) :
    (m.setZone z r).cell a = m.cell a := rfl

@[simp] theorem MapUnit.setZone_zone_same (m : MapUnit) (z : ZoneId) (r : Zone) : (m.setZone z r).zone z = r := by
  simp [MapUnit.setZone, MapUnit.zone]

theorem MapUnit.setZone_zone (m : MapUnit) (z y : ZoneId) (r : Zone) :
    (m.setZone z r).zone y = if y = z then r else m.zone y := by
  simp [MapUnit.setZone, MapUnit.zone, tget_tset]

end Sys2Proof.Machine
end

