-- ==== Sys2Proof/Laws/Host.lean ====
section
/-! SUPPORT. What serving a request can do (R184, R185): the request decided now is checked, handed to its owner
and answered; any other changes nothing. And what expiries, silences, the receiver and the reports can do. -/

namespace Sys2Proof.Machine

/-! ### A request decided now -/

/-- The condition of `State.serve`, as `State.serves` states it. -/
theorem State.serves_iff (s : State) (f : RequestForm) :
    s.serves f ↔ s.link.queue = [] ∨
      ∃ q l, s.link.queue = q :: l ∧ s.link.answered = false ∧ q.kind.toNat = f.kind ∧ f.spelled q.body = true := by
  unfold State.serves
  split <;> simp_all

/-- A request that is decided now and whose decision leaves the link alone is answered on it. -/
theorem State.serve_of_serves (s : State) (kind : Nat) (sp : List Byte → Bool) (a : Access) (b : Bool) (act : State → Decision)
    (h : s.serves ⟨kind, sp, a, b⟩) (hl : (act s).1.link = s.link) :
    s.serve kind sp act = { (act s).1 with link := s.link.answer (act s).2 } := by
  unfold State.serves at h
  unfold State.serve Link.answer
  split at h
  · rename_i hq; simp [hq, hl]
  · rename_i q l hq
    obtain ⟨h1, h2, h3⟩ := h
    have h2 : q.kind.toNat = kind := h2
    have h3 : sp q.body = true := h3
    simp [hq, hl, h1, h2, h3]

/-- A request that is not decided now changes nothing. -/
theorem State.serve_of_not_serves (s : State) (kind : Nat) (sp : List Byte → Bool) (a : Access) (b : Bool)
    (act : State → Decision) (h : ¬ s.serves ⟨kind, sp, a, b⟩) : s.serve kind sp act = s := by
  unfold State.serves at h
  unfold State.serve
  split at h
  · simp at h
  · rename_i q l hq; first | exact if_neg h | (rw [hq]; exact if_neg h)

/-- The gate lets through exactly what `State.allows` says. -/
theorem State.gate_none (s : State) (a : Access) : s.gate a = none ↔ s.allows a := by
  cases a <;> simp only [State.gate, State.allows] <;> cases hm : s.mode <;> cases hw : s.store.writing <;> simp

/-- A request let through is its owner's answer, on the garden that the owner leaves. -/
theorem State.request_takes {α : Type} [DecidableEq α] (s : State) (kind : Nat) (r : Reader α) (a : Access) (x : α)
    (act : α → Garden → Garden × Answer) (h : s.serves (formOf kind r a (.fields x))) (ha : s.allows a) :
    s.request kind r a (.fields x) act = s.answer (act x s.toGarden).1 (act x s.toGarden).2 := by
  have hg := (s.gate_none a).2 ha
  unfold State.request State.requestFull
  rw [show (fun bytes => decide (readBody r bytes = Body.fields x)) = spells r (.fields x) from rfl]
  refine (State.serve_of_serves s kind _ a _ _ h ?_).trans ?_ <;> simp [State.checked, hg, State.answer]

/-- A request whose owner's function acts on the whole state, with the link left alone. -/
theorem State.requestFull_takes {α : Type} [DecidableEq α] (s : State) (kind : Nat) (r : Reader α) (a : Access) (x : α)
    (act : α → State → Decision) (h : s.serves (formOf kind r a (.fields x))) (ha : s.allows a)
    (hl : (act x s).1.link = s.link) :
    s.requestFull kind r a (.fields x) act = { (act x s).1 with link := s.link.answer (act x s).2 } := by
  have hg := (s.gate_none a).2 ha
  refine (State.serve_of_serves s kind _ a _ _ h ?_).trans ?_ <;> simp [State.checked, hg, hl]

/-- A restart of the named unit is answered with the unit's code. -/
theorem State.unitRestart_takes (s : State) (unit : Nat) (act : Garden → Garden)
    (h : s.serves (unitForm unit (.fields .thisUnit))) :
    s.unitRestart unit (.fields .thisUnit) act = s.answer (act s.toGarden) (.accepted [u1 unit]) := by
  refine (State.serve_of_serves s 0x14 _ .both _ _ h ?_).trans ?_ <;> simp [State.checked, State.gate, State.answer]

/-- A body of the wrong length is refused BAD_BODY. -/
theorem State.requestFull_badBody {α : Type} [DecidableEq α] (s : State) (kind : Nat) (r : Reader α) (a : Access)
    (act : α → State → Decision) (h : s.serves (formOf kind r a .wrongLength)) :
    s.requestFull kind r a .wrongLength act = s.answer s.toGarden (.refused .badBody []) := by
  refine (State.serve_of_serves s kind _ a _ _ h ?_).trans ?_ <;> simp [State.checked, State.answer]

/-- A request that the mode or the store stops is refused with that reason. -/
theorem State.requestFull_gated {α : Type} [DecidableEq α] (s : State) (kind : Nat) (r : Reader α) (a : Access) (x : α)
    (act : α → State → Decision) (e : Reason) (h : s.serves (formOf kind r a (.fields x))) (hg : s.gate a = some e) :
    s.requestFull kind r a (.fields x) act = s.answer s.toGarden (.refused e []) := by
  refine (State.serve_of_serves s kind _ a _ _ h ?_).trans ?_ <;> simp [State.checked, hg, State.answer]

/-! ### How a request command is taken -/

/-- A CONFIG request is taken by a link at rest in SETUP while the store is not writing. -/
theorem State.takes_config {s : State} {c : Instr} (f : RequestForm) (hf : formFor c = some f) (ha : f.access = .config)
    (hb : f.badLength = false) (hq : s.link.queue = []) (hm : s.mode = .setup) (hw : s.store.writing = none) : s.takes c := by
  unfold State.takes State.serves
  rw [hf]; simp [hq, hb, ha, State.allows, hm, hw]

/-- A request of both modes is taken by a link at rest. -/
theorem State.takes_both {s : State} {c : Instr} (f : RequestForm) (hf : formFor c = some f) (ha : f.access = .both)
    (hb : f.badLength = false) (hq : s.link.queue = []) : s.takes c := by
  unfold State.takes State.serves
  rw [hf]; simp [hq, hb, ha, State.allows]

/-- A request of RUN is taken by a link at rest in RUN. -/
theorem State.takes_runOnly {s : State} {c : Instr} (f : RequestForm) (hf : formFor c = some f) (ha : f.access = .runOnly)
    (hb : f.badLength = false) (hq : s.link.queue = []) (hm : s.mode = .run) : s.takes c := by
  unfold State.takes State.serves
  rw [hf]; simp [hq, hb, ha, State.allows, hm]

/-! ### Expiries and silences -/

/-- Everything the command of an expiry can do: nothing while its expiry is missing or lies in a later second, and
otherwise its effect at the running time moved up to the expiry. -/
theorem State.eventAt_cases (s : State) (t : Option Nat) (f : Garden → Garden) :
    ((∀ x ∈ t, s.time.secs < x / 1000) ∧ s.eventAt t f = s) ∨
    ∃ x, t = some x ∧ x / 1000 ≤ s.time.secs ∧
      s.eventAt t f = { s with toGarden := f { s.toGarden with time := s.time.reach x } } := by
  unfold State.eventAt
  cases t with
  | none => exact .inl ⟨nofun, rfl⟩
  | some x =>
    by_cases h : x / 1000 ≤ s.time.secs
    · exact .inr ⟨x, rfl, h, if_pos (decide_eq_true h)⟩
    · exact .inl ⟨by simp; omega, if_neg (by simp [Bench.reached]; omega)⟩

/-- An expiry that has not come. -/
theorem State.eventAt_early (s : State) (t : Option Nat) (f : Garden → Garden) (h : ∀ x ∈ t, s.time.secs < x / 1000) :
    s.eventAt t f = s := by
  obtain ⟨-, e⟩ | ⟨x, rfl, hx, -⟩ := s.eventAt_cases t f
  · exact e
  · have := h x rfl; omega

/-- An expiry that has come. -/
theorem State.eventAt_due (s : State) (x : Nat) (f : Garden → Garden) (h : x / 1000 ≤ s.time.secs) :
    s.eventAt (some x) f = { s with toGarden := f { s.toGarden with time := s.time.reach x } } :=
  if_pos (decide_eq_true h)

/-- Moving up within the present second leaves the time stamp of reports. -/
@[simp] theorem Bench.reach_stamp (b : Bench) (x : Nat) : (b.reach x).stamp = b.stamp := by
  have h : (b.time.reach x).secs = b.time.secs := by unfold Time.reach; split <;> rfl
  simp [Bench.stamp, Bench.reach, h]

/-- What the end of a store write can do: nothing without a write or before its end, otherwise the read-back. -/
theorem State.writeEnds_cases (s : State) (ok : Bool) :
    ((∀ w ∈ s.store.writing, s.time.secs < (w.began + 2000) / 1000) ∧ s.writeEnds ok = s) ∨
    ∃ w, s.store.writing = some w ∧ (w.began + 2000) / 1000 ≤ s.time.secs ∧
      s.writeEnds ok = (s.event (·.on (·.reach (w.began + 2000)))).endWrite w ok := by
  unfold State.writeEnds
  split
  · rename_i w hw
    by_cases h : (w.began + 2000) / 1000 ≤ s.time.secs
    · exact .inr ⟨w, hw, h, if_pos (decide_eq_true h)⟩
    · refine .inl ⟨fun v hv => ?_, if_neg fun e => h (of_decide_eq_true e)⟩
      obtain rfl : w = v := Option.some.inj (hw.symm.trans hv)
      exact Nat.lt_of_not_le h
  · rename_i hw
    exact .inl ⟨fun v hv => by simp [hw] at hv, rfl⟩

/-- What a changed source table can do to the silences: each onset stands only while its silence holds. -/
theorem Garden.reviewSilence_eq (g : Garden) : g.reviewSilence = { g with
    shows := { g.shows with windSilent := g.shows.windSilent && g.silentFor .wind 60 },
    lights := { g.lights with onset := g.lights.onset && g.silentFor .dusk 600 },
    planner := { g.planner with rainOnset := g.planner.rainOnset && g.silentFor .rain 1800 } } := rfl

/-! ### Counts and reports -/

theorem bump_le {limit n : Nat} (h : n ≤ limit) : bump limit n ≤ limit := by unfold bump; split <;> omega

/-- Everything that posting a report can do to the queue. -/
theorem Reports.add_cases (q : Reports) (w : Stamp) (r : ReportBody) :
    (q.mask.getLsbD r.code = false ∧ q.add w r = q) ∨
    (q.mask.getLsbD r.code = true ∧ q.queue.length < 32 ∧ q.add w r = { q with queue := q.queue ++ [⟨w, r⟩] }) ∨
    (q.mask.getLsbD r.code = true ∧ 32 ≤ q.queue.length ∧ q.add w r = { q with lost := bump 255 q.lost }) := by
  unfold Reports.add
  split
  · exact .inl ⟨by assumption, rfl⟩
  · split
    · exact .inr (.inl ⟨by simp_all, by assumption, rfl⟩)
    · exact .inr (.inr ⟨by simp_all, by omega, rfl⟩)

theorem Reports.bounded_add {q : Reports} (h : q.bounded) (w : Stamp) (r : ReportBody) : (q.add w r).bounded := by
  obtain ⟨h1, h2, h3⟩ := h
  rcases q.add_cases w r with ⟨-, e⟩ | ⟨-, hl, e⟩ | ⟨-, -, e⟩ <;> rw [e]
  · exact ⟨h1, h2, h3⟩
  · exact ⟨by simp; omega, h2, h3⟩
  · exact ⟨h1, bump_le h2, h3⟩

theorem Bench.bounded_post {b : Bench} (h : b.reports.bounded) (r : ReportBody) : (b.post r).reports.bounded :=
  Reports.bounded_add h _ r

/-! ### The receiver -/

/-- What a byte can do: it is outside a frame, it moves the receiver, or it ends a frame with one count. -/
theorem Link.takeByte_cases (l : Link) (b : Byte) (e : Bool) :
    l.takeByte b e = l ∨ (∃ r, l.takeByte b e = { l with rx := r }) ∨
    (l.takeByte b e).rx = HostRx.hunting := by
  unfold Link.takeByte
  split
  · split
    · exact .inr (.inl ⟨_, rfl⟩)
    · exact .inl rfl
  · split
    · exact .inr (.inr rfl)
    · exact .inr (.inl ⟨_, rfl⟩)
  · dsimp only
    split
    · refine .inr (.inr ?_)
      unfold Link.finishFrame
      dsimp only
      split
      · rfl
      · split
        · unfold Link.offer; split <;> rfl
        · rfl
    · exact .inr (.inl ⟨_, rfl⟩)

/-- An answer keeps the receiver, the counters and the queue. -/
theorem Link.answer_rest (l : Link) (a : Answer) :
    (l.answer a).rx = l.rx ∧ (l.answer a).counters = l.counters ∧ (l.answer a).queue = l.queue := by
  unfold Link.answer; split <;> simp_all

end Sys2Proof.Machine
end

