-- ==== Sys2Proof/Laws/Mowers.lean ====
section
/-! SUPPORT. What the mowers' work leaves alone: every operation of FU and MP that moves mowers, gives or ends
lanes, claims and releases cells, or posts orders keeps `Garden.steady`, the cells' zones and blocked flags,
and the grid's canonical form. -/

namespace Sys2Proof.Machine

/-- `Garden.onlyMowers`, with the grid's canonical form kept. -/
structure Garden.Kept (g h : Garden) : Prop where
  steady : h.steady = g.steady
  cells : g.ground.grid.wf = true → h.ground.grid.wf = true ∧ g.ground.sameCells h.ground

theorem Garden.Kept.onlyMowers {g h : Garden} (k : g.Kept h) : g.onlyMowers h :=
  ⟨k.steady, fun w => (k.cells w).2⟩

theorem Garden.Kept.refl (g : Garden) : g.Kept g := ⟨rfl, fun w => ⟨w, fun _ => ⟨rfl, rfl⟩⟩⟩

theorem Garden.Kept.trans {g h i : Garden} (a : g.Kept h) (b : h.Kept i) : g.Kept i :=
  ⟨b.steady.trans a.steady, fun w =>
    ⟨(b.cells (a.cells w).1).1, fun x =>
      ⟨((b.cells (a.cells w).1).2 x).1.trans ((a.cells w).2 x).1,
       ((b.cells (a.cells w).1).2 x).2.trans ((a.cells w).2 x).2⟩⟩⟩

/-- A fold of keeping steps keeps. -/
theorem Garden.kept_foldl {α : Type} (f : Garden → α → Garden) (h : ∀ (g : Garden) a, g.Kept (f g a)) (l : List α) (g : Garden) :
    g.Kept (l.foldl f g) := by
  induction l generalizing g with
  | nil => exact .refl g
  | cons a l ih => exact (h g a).trans (ih _)

/-! ### Changes of the bench -/

theorem Bench.steady_of_calm {b c : Bench} (h : c.calm = b.calm) : c.steady = b.steady := by
  simp only [Bench.steady, h]

theorem Bench.grid_of_calm {b c : Bench} (h : c.calm = b.calm) : c.ground.grid = b.ground.grid := by
  have := congrArg (fun x : Bench => x.ground.grid) h
  exact this

/-- A change of the bench that an allocation could make. -/
theorem Garden.kept_calm (g : Garden) (b : Bench) (h : b.calm = g.toBench.calm) : g.Kept { g with toBench := b } := by
  have hg : b.ground.grid = g.ground.grid := Bench.grid_of_calm h
  refine ⟨?_, fun w => ⟨?_, fun a => ?_⟩⟩
  · simp [Garden.steady, Bench.steady_of_calm h]
  · simpa [hg] using w
  · simp [MapUnit.cell, hg]

theorem Garden.kept_on (g : Garden) (f : Bench → Bench) (h : (f g.toBench).calm = g.toBench.calm) : g.Kept (g.on f) :=
  g.kept_calm _ h

theorem Garden.kept_settle (g : Garden) : g.Kept g.settle := g.kept_on _ (by simp)

theorem Garden.kept_post (g : Garden) (r : ReportBody) : g.Kept (g.on (·.post r)) := g.kept_on _ (by simp)

theorem Garden.kept_tend (g : Garden) (k : Slot) : g.Kept (g.on (·.tendCharger k)) := g.kept_on _ (by simp)

@[simp] theorem FleetSlot.steady_calm (x : FleetSlot) : x.calm.steady = x.steady := rfl

/-- A change of one slot that keeps what its last delivery wrote. -/
theorem Garden.kept_slot (g : Garden) (k : Slot) (x : FleetSlot) (h : x.steady = (g.slot k).steady) :
    g.Kept (g.on (fun b => { b with fleet := b.fleet.put k x })) := by
  refine ⟨?_, fun w => ⟨w, fun _ => ⟨rfl, rfl⟩⟩⟩
  cases k <;> simp_all [Garden.steady, Garden.on, Bench.steady, Bench.calm, BySlot.put, Bench.slot, BySlot.get]

/-- A change of a mower's context that keeps what its last delivery wrote. -/
theorem Garden.kept_editMower (g : Garden) (k : Slot) (f : MowerCtx → MowerCtx)
    (h : FleetSlot.steady { g.slot k with ctx := f (g.mower k) } = (g.slot k).steady) : g.Kept (g.editMower k f) :=
  g.kept_slot k _ h

theorem Garden.kept_setMowerState (g : Garden) (k : Slot) (s : MowerState) : g.Kept (g.on (·.setMowerState k s)) := by
  by_cases h : (g.mower k).state = s
  · simpa [Garden.on, Bench.setMowerState, h] using Garden.Kept.refl g
  · have := (g.kept_slot k { g.fleet.get k with ctx := { g.mower k with state := s } } rfl).trans
      (Garden.kept_on _ (·.reportMower k) (by simp))
    simpa [Garden.on, Bench.setMowerState, h, Bench.setMower] using this

/-! ### Lights that follow the mowers (R155, R156) -/

theorem LampCircuit.steady_escorts (x : LampCircuit) (e : BySlot Contribution) :
    ({ x with escorts := e } : LampCircuit).calm.steady = x.calm.steady := rfl

theorem Garden.kept_setEscort (g : Garden) (k : Slot) (c : Circuit) (x : Contribution) :
    g.Kept (g.on (·.setEscort k c x)) := by
  have h : g.Kept (g.on (fun b => b.setLamp c { b.lamp c with escorts := (b.lamp c).escorts.put k x })) := by
    refine ⟨?_, fun w => ⟨w, fun _ => ⟨rfl, rfl⟩⟩⟩
    have e : ((tset g.lights.circuits c { g.lamp c with escorts := (g.lamp c).escorts.put k x }).map
        LampCircuit.calm).map LampCircuit.steady = (g.lights.circuits.map LampCircuit.calm).map LampCircuit.steady := by
      simp only [Vector.map_map]
      exact map_tset _ _ _ _ rfl
    simp only [Garden.steady, Garden.on, Bench.steady, Bench.calm, Bench.setLamp]
    rw [e]
  exact h.trans (Garden.kept_on _ (·.postLamp c) (by simp [Bench.postLamp]))

theorem Garden.on_foldl {α : Type} (g : Garden) (f : Bench → α → Bench) (l : List α) :
    g.on (fun b => l.foldl f b) = l.foldl (fun g a => g.on (fun b => f b a)) g := by
  induction l generalizing g with
  | nil => rfl
  | cons a l ih => rw [List.foldl_cons, ← ih]; rfl

theorem Garden.kept_reformEscort (g : Garden) (k : Slot) : g.Kept (g.reformEscort k) := by
  unfold Garden.reformEscort
  split
  · refine Garden.Kept.trans ?_ (Garden.kept_settle _)
    rw [Garden.on_foldl]
    exact Garden.kept_foldl _ (fun h c => h.kept_setEscort k c _) _ _
  · exact .refl g

/-! ### States and orders (R54, R64) -/

theorem Garden.kept_enter (g : Garden) (k : Slot) (s : MowerState) : g.Kept (g.enter k s) :=
  ((g.kept_setMowerState k s).trans (Garden.kept_reformEscort _ k)).trans (Garden.kept_tend _ k)

/-- A change of Field Lines that `FieldUnit.steady` does not see. -/
theorem Garden.kept_field (g : Garden) (f : FieldUnit) (h : f.steady = g.field.steady) : g.Kept { g with field := f } :=
  ⟨by simp [Garden.steady, h], fun w => ⟨w, fun _ => ⟨rfl, rfl⟩⟩⟩

theorem FieldUnit.steady_arrive (f : FieldUnit) (o : Order) (now : Nat) : (f.arrive o now).steady = f.steady := by
  unfold FieldUnit.arrive
  repeat' split
  all_goals rfl

theorem Garden.kept_sendOrder (g : Garden) (k : Slot) (o : OrderKind) (n : Nat) : g.Kept (g.sendOrder k o n) := by
  unfold Garden.sendOrder
  split
  · exact .refl g
  · exact g.kept_field _ (FieldUnit.steady_arrive _ _ _)

theorem Garden.kept_postOrder (g : Garden) (k : Slot) (o : OrderKind) : g.Kept (g.postOrder k o) :=
  (g.kept_editMower k _ rfl).trans (Garden.kept_sendOrder _ _ _ _)

theorem Garden.kept_restartDeadline (g : Garden) (k : Slot) : g.Kept (g.restartDeadline k) := g.kept_editMower k _ rfl

/-! ### The planner's records and the map -/

/-- A change of the planner that `Planner.steady` does not see. -/
theorem Garden.kept_setPlanner (g : Garden) (p : Planner) (h : p.steady = g.planner.steady) : g.Kept (g.setPlanner p) :=
  ⟨by simp [Garden.steady, Garden.setPlanner, h], fun w => ⟨w, fun _ => ⟨rfl, rfl⟩⟩⟩

theorem Garden.kept_setTracker (g : Garden) (k : Slot) (n : Nat) : g.Kept (g.setTrack k { g.track k with tracker := n }) := by
  refine ⟨?_, fun w => ⟨w, fun _ => ⟨rfl, rfl⟩⟩⟩
  cases k <;> rfl

theorem Garden.kept_retrack (g : Garden) (k : Slot) : g.Kept (g.retrack k) := g.kept_setTracker k _

theorem Garden.kept_setLane (g : Garden) (k : Slot) (l : Option Lane) : g.Kept (g.setLane k l) :=
  (g.kept_setPlanner _ (by rfl)).trans (Garden.kept_retrack _ k)

theorem Garden.kept_setYield (g : Garden) (k : Slot) (y : Option Yield) : g.Kept (g.setYield k y) :=
  g.kept_setPlanner _ rfl

theorem Garden.kept_setSetAside (g : Garden) (k : Slot) (l : List CellAddr) : g.Kept (g.setSetAside k l) :=
  g.kept_setPlanner _ rfl

theorem Garden.kept_setDue (g : Garden) (q : List DueEntry) : g.Kept (g.setDue q) := g.kept_setPlanner _ rfl

/-- The map's side of `Garden.Kept`: cells, block list and zones' configuration. -/
structure MapUnit.Kept (m n : MapUnit) : Prop where
  list : n.blockList = m.blockList
  zones : n.zones.map Zone.cfg = m.zones.map Zone.cfg
  cells : m.grid.wf = true → n.grid.wf = true ∧ m.sameCells n

theorem MapUnit.Kept.refl (m : MapUnit) : m.Kept m := ⟨rfl, rfl, fun w => ⟨w, fun _ => ⟨rfl, rfl⟩⟩⟩

theorem MapUnit.Kept.trans {m n o : MapUnit} (a : m.Kept n) (b : n.Kept o) : m.Kept o :=
  ⟨b.list.trans a.list, b.zones.trans a.zones, fun w =>
    ⟨(b.cells (a.cells w).1).1, fun x =>
      ⟨((b.cells (a.cells w).1).2 x).1.trans ((a.cells w).2 x).1,
       ((b.cells (a.cells w).1).2 x).2.trans ((a.cells w).2 x).2⟩⟩⟩

theorem MapUnit.kept_foldl {α : Type} (f : MapUnit → α → MapUnit) (h : ∀ (m : MapUnit) a, m.Kept (f m a)) (l : List α)
    (m : MapUnit) : m.Kept (l.foldl f m) := by
  induction l generalizing m with
  | nil => exact .refl m
  | cons a l ih => exact (h m a).trans (ih _)

theorem Vector.map_zone_steady {u v : Vector Zone 48} (h : u.map Zone.cfg = v.map Zone.cfg) :
    (u.map Zone.calm).map Zone.steady = (v.map Zone.calm).map Zone.steady := by
  have e : ∀ w : Vector Zone 48, (w.map Zone.calm).map Zone.steady = (w.map Zone.cfg).map Zone.fresh := fun w => by
    simp only [Vector.map_map]; rfl
  rw [e, e, h]

theorem Garden.kept_onMap (g : Garden) (f : MapUnit → MapUnit) (h : g.ground.Kept (f g.ground)) : g.Kept (g.onMap f) := by
  refine ⟨?_, fun w => h.cells w⟩
  simp only [Garden.steady, Garden.onMap, Garden.on, Bench.steady, Bench.calm, h.list, Vector.map_zone_steady h.zones]

theorem MapUnit.kept_setZone (m : MapUnit) (z : ZoneId) (r : Zone) (h : r.cfg = (m.zone z).cfg) : m.Kept (m.setZone z r) :=
  ⟨rfl, map_tset _ _ _ _ h, fun w => ⟨w, fun _ => ⟨rfl, rfl⟩⟩⟩

theorem MapUnit.kept_mapZones (m : MapUnit) (f : Zone → Zone) (h : ∀ z, (f z).cfg = z.cfg) : m.Kept (m.mapZones f) :=
  MapUnit.kept_foldl _ (fun n z => n.kept_setZone z _ (h _)) _ m

theorem MapUnit.kept_setCell (m : MapUnit) (a : CellAddr) (c : Cell) (h1 : c.zone = (m.cell a).zone)
    (h2 : c.blocked = (m.cell a).blocked) : m.Kept (m.setCell a c) := by
  refine ⟨rfl, rfl, fun w => ⟨m.wf_setCell w a c, fun b => ?_⟩⟩
  rw [m.cell_setCell w]
  split
  · next e => subst e; exact ⟨h1, h2⟩
  · exact ⟨rfl, rfl⟩

theorem MapUnit.kept_remap (m : MapUnit) (f : Cell → Cell) (hb : f Cell.blank = Cell.blank)
    (h : ∀ c, (f c).zone = c.zone ∧ (f c).blocked = c.blocked) : m.Kept { m with grid := m.grid.remap f } := by
  refine ⟨rfl, rfl, fun w => ⟨Grid.wf_remap w f, fun a => ?_⟩⟩
  simp only [MapUnit.cell]
  rw [Grid.find_remap w f hb]
  exact h _

theorem MapUnit.kept_claim (m : MapUnit) (k : Slot) (a : CellAddr) : m.Kept (m.claim k a) := by
  unfold MapUnit.claim
  split
  · exact m.kept_setCell a _ rfl rfl
  · exact .refl m

theorem MapUnit.kept_release (m : MapUnit) (k : Slot) (a : CellAddr) : m.Kept (m.release k a) := by
  unfold MapUnit.release
  split
  · exact m.kept_setCell a _ rfl rfl
  · exact .refl m

theorem MapUnit.kept_stampMown (m : MapUnit) (a : CellAddr) (d : Nat) : m.Kept (m.stampMown a d) :=
  m.kept_setCell a _ rfl rfl

theorem MapUnit.kept_releaseAll (m : MapUnit) (k : Slot) : m.Kept (m.releaseAll k) := by
  refine m.kept_remap _ ?_ ?_
  · cases k <;> rfl
  · intro c
    unfold Cell.unclaim
    split <;> exact ⟨rfl, rfl⟩

theorem MapUnit.kept_setDischarge (m : MapUnit) : m.Kept m.setDischarge := by
  unfold MapUnit.setDischarge
  split
  · exact .refl m
  · next z hz =>
    refine (m.kept_setZone z ((m.zone z).setMark .discharge .held) rfl).trans (MapUnit.kept_remap _ _ ?_ ?_)
    · rfl
    · intro c
      unfold Cell.unclaimIn
      split <;> exact ⟨rfl, rfl⟩

/-! ### Lanes and directions (R57, R66, R94) -/

theorem Garden.kept_releaseAll (g : Garden) (k : Slot) : g.Kept (g.releaseAll k) := g.kept_onMap _ (MapUnit.kept_releaseAll _ _)

theorem Garden.kept_cancelLane (g : Garden) (k : Slot) : g.Kept (g.cancelLane k) := by
  unfold Garden.cancelLane
  refine Garden.Kept.trans ?_ (Garden.kept_setSetAside _ k _)
  refine Garden.Kept.trans ((g.kept_setLane k none).trans (Garden.kept_setYield _ k none)) ?_
  refine Garden.kept_onMap _ _ (MapUnit.kept_mapZones _ _ (fun z => ?_))
  unfold Zone.unassign
  split <;> rfl

theorem Garden.kept_leave (g : Garden) (k : Slot) : g.Kept (g.leave k) :=
  (g.kept_releaseAll k).trans (Garden.kept_cancelLane _ k)

theorem Garden.kept_leaveIfWorking (g : Garden) (k : Slot) : g.Kept (g.leaveIfWorking k) := by
  unfold Garden.leaveIfWorking
  split
  · exact g.kept_leave k
  · exact .refl g

theorem Garden.kept_faultMower (g : Garden) (k : Slot) (c : MowerFaultCause) : g.Kept (g.faultMower k c) :=
  ((g.kept_leaveIfWorking k).trans (Garden.kept_enter _ k _)).trans (Garden.kept_postOrder _ k _)

theorem Garden.kept_goHome (g : Garden) (k : Slot) (c : HomeCause) : g.Kept (g.goHome k c) :=
  ((g.kept_leave k).trans (Garden.kept_enter _ k _)).trans (Garden.kept_postOrder _ k _)

theorem Garden.kept_takeLane (g : Garden) (k : Slot) (l : Lane) : g.Kept (g.takeLane k l) := by
  unfold Garden.takeLane
  refine Garden.Kept.trans ?_ (Garden.kept_postOrder _ k _)
  refine Garden.Kept.trans ?_ (Garden.kept_enter _ k _)
  refine (g.kept_editMower k (fun x => { x with departed := !x.lastDocked }) rfl).trans ?_
  split
  · exact Garden.kept_restartDeadline _ k
  · exact .refl _

theorem Garden.kept_sendHome (g : Garden) (k : Slot) (c : HomeCause) : g.Kept (g.sendHome k c) := by
  unfold Garden.sendHome
  have h := (g.kept_releaseAll k).trans (Garden.kept_cancelLane _ k)
  dsimp only
  split
  · exact h.trans (Garden.kept_goHome _ k c)
  · exact h

theorem Garden.kept_sendAllHome (g : Garden) (c : HomeCause) : g.Kept (g.sendAllHome c) :=
  Garden.kept_foldl _ (fun h k => by split; exacts [h.kept_sendHome k c, .refl h]) _ g

theorem Garden.kept_recallAll (g : Garden) (c : HomeCause) : g.Kept (g.recallAll c) :=
  Garden.kept_foldl _ (fun h k => by split; exacts [h.kept_goHome k c, .refl h]) _ g

theorem Garden.kept_pauseFor (g : Garden) (k : Slot) (c : PauseCause) : g.Kept (g.pauseFor k c) := by
  unfold Garden.pauseFor
  split
  · exact (g.kept_enter k _).trans (Garden.kept_postOrder _ k _)
  · exact g.kept_enter k _
  all_goals exact .refl g

/-! ### The queue, rounds and the zone choice (R77–R84, R95) -/

theorem Garden.kept_removeDue (g : Garden) (z : ZoneId) : g.Kept (g.removeDue z) := g.kept_setDue _

theorem Garden.kept_enterDue (g : Garden) (z : ZoneId) : g.Kept (g.enterDue z) := by
  unfold Garden.enterDue
  split
  · exact (g.kept_removeDue z).trans (Garden.kept_setDue _ _)
  · exact .refl g

theorem Garden.kept_buildQueue (g : Garden) : g.Kept g.buildQueue := by
  unfold Garden.buildQueue
  dsimp only
  split
  · exact (g.kept_setDue _).trans (Garden.kept_foldl _ (fun h z => h.kept_enterDue z) _ _)
  · exact g.kept_setDue _

theorem Garden.kept_unassign (g : Garden) (k : Slot) (z : ZoneId) : g.Kept (g.unassign k z) := by
  refine g.kept_onMap _ (MapUnit.kept_setZone _ z _ ?_)
  unfold Zone.unassign
  split <;> rfl

theorem Garden.kept_endAssignment (g : Garden) (k : Slot) (z : ZoneId) : g.Kept (g.endAssignment k z) :=
  (g.kept_unassign k z).trans (Garden.kept_setSetAside _ k _)

theorem Garden.kept_loseZone (g : Garden) (k : Slot) (z : ZoneId) : g.Kept (g.loseZone k z) := by
  unfold Garden.loseZone
  split
  · exact g.kept_endAssignment k z
  · exact .refl g

theorem Garden.kept_giveLane (g : Garden) (k : Slot) (l : Lane) : g.Kept (g.giveLane k l) := by
  have key : ∀ h : Garden, h.Kept (if ((h.setLane k (some l)).mower k).state.takesLane then
      (h.setLane k (some l)).takeLane k l else ((h.setLane k (some l)).setLane k none).loseZone k l.zone) := by
    intro h
    refine (h.kept_setLane k (some l)).trans ?_
    split
    · exact Garden.kept_takeLane _ k l
    · exact (Garden.kept_setLane _ k none).trans (Garden.kept_loseZone _ k _)
  refine Garden.Kept.trans ?_ (key _)
  split
  · exact (g.kept_releaseAll k).trans (Garden.kept_setYield _ k none)
  · exact .refl g

theorem Garden.kept_assign (g : Garden) (k : Slot) (z : ZoneId) : g.Kept (g.assign k z) :=
  (g.kept_onMap _ (MapUnit.kept_setZone _ z _ (by rfl))).trans (Garden.kept_setSetAside _ k _)

theorem Garden.kept_completeRound (g : Garden) (k : Slot) (z : ZoneId) : g.Kept (g.completeRound k z) := by
  unfold Garden.completeRound
  refine Garden.Kept.trans ?_ (Garden.kept_post _ _)
  refine (((g.kept_setPlanner _ ?_).trans (Garden.kept_onMap _ _ (MapUnit.kept_setZone _ z _ (by rfl)))).trans
    (((Garden.kept_setSetAside _ k _).trans (Garden.kept_removeDue _ z)).trans (Garden.kept_enterDue _ z)))
  rfl

theorem Garden.kept_walkDue (k : Slot) (l : List DueEntry) (g : Garden) : g.Kept (Garden.walkDue k l g).2 := by
  induction l generalizing g with
  | nil => exact .refl g
  | cons e l ih =>
    unfold Garden.walkDue
    split
    · dsimp only
      split
      · exact (g.kept_assign k _).trans (Garden.kept_giveLane _ k _)
      · exact ((g.kept_assign k _).trans (Garden.kept_completeRound _ k _)).trans (ih _)
    · exact ih g

theorem Garden.kept_zoneChoice (g : Garden) (k : Slot) : g.Kept (g.zoneChoice k).2 := Garden.kept_walkDue k _ g

theorem Garden.kept_chooseOrHome (g : Garden) (k : Slot) : g.Kept (g.chooseOrHome k) := by
  have h := g.kept_zoneChoice k
  unfold Garden.chooseOrHome
  split
  · next e => rw [e] at h; exact h
  · next e => rw [e] at h; exact h.trans (Garden.kept_sendHome _ k _)

theorem Garden.kept_nextLaneIn (g : Garden) (k : Slot) (z : Option ZoneId) : g.Kept (g.nextLaneIn k z) := by
  unfold Garden.nextLaneIn
  split
  · exact g.kept_chooseOrHome k
  · split
    · split
      · exact (g.kept_endAssignment k _).trans (Garden.kept_chooseOrHome _ k)
      · split
        · exact g.kept_giveLane k _
        · exact (g.kept_completeRound k _).trans (Garden.kept_chooseOrHome _ k)
    · exact g.kept_chooseOrHome k

theorem Garden.kept_nextLane (g : Garden) (k : Slot) (z : Option ZoneId) : g.Kept (g.nextLane k z) := by
  unfold Garden.nextLane
  split
  · exact g.kept_nextLaneIn k z
  · exact g.kept_sendHome k _

/-! ### Along the lane (R85–R93) -/

theorem Garden.kept_releaseCells (g : Garden) (k : Slot) (l : List CellAddr) : g.Kept (g.releaseCells k l) :=
  g.kept_onMap _ (MapUnit.kept_foldl _ (fun m a => m.kept_release k a) _ _)

theorem Garden.kept_truncate (g : Garden) (k : Slot) (i : Nat) : g.Kept (g.truncate k i) := by
  unfold Garden.truncate
  split
  · exact .refl g
  · exact (g.kept_releaseCells k _).trans (Garden.kept_setLane _ k _)

theorem Garden.kept_endLane (g : Garden) (k : Slot) (v : Bool) : g.Kept (g.endLane k v) := by
  unfold Garden.endLane
  split
  · exact .refl g
  · dsimp only
    refine Garden.Kept.trans ?_ (Garden.kept_nextLane _ k _)
    refine Garden.Kept.trans ?_ (Garden.kept_setYield _ k _)
    refine Garden.Kept.trans ?_ (Garden.kept_setLane _ k _)
    refine Garden.Kept.trans ?_ (Garden.kept_releaseAll _ k)
    split
    · split
      · exact g.kept_onMap _ (MapUnit.kept_stampMown _ _ _)
      · exact .refl g
    · exact .refl g

theorem Garden.kept_testLaneEnd (g : Garden) (k : Slot) : g.Kept (g.testLaneEnd k) := by
  unfold Garden.testLaneEnd
  split
  · exact .refl g
  · split
    · exact g.kept_endLane k _
    · exact .refl g

theorem Garden.kept_beginYield (g : Garden) (k : Slot) (a : CellAddr) : g.Kept (g.beginYield k a) := by
  unfold Garden.beginYield
  split
  · exact ((g.kept_enter k _).trans (Garden.kept_postOrder _ k _)).trans (Garden.kept_setYield _ k _)
  · exact .refl g

theorem Garden.kept_askCells (k : Slot) (n i : Nat) (g : Garden) : g.Kept (Garden.askCells k n i g).1 := by
  induction n generalizing i g with
  | zero => exact .refl g
  | succ n ih =>
    unfold Garden.askCells
    split
    · exact .refl g
    · split
      · exact .refl g
      · dsimp only
        split
        · exact ((g.kept_onMap _ (MapUnit.kept_claim _ k _)).trans (Garden.kept_setLane _ k _)).trans (ih _ _)
        · exact .refl g

theorem Garden.kept_fillWindow (g : Garden) (k : Slot) : g.Kept (g.fillWindow k) := by
  unfold Garden.fillWindow
  split
  · exact .refl g
  · next l _ =>
    have h := Garden.kept_askCells k 8 l.current g
    split
    · next e => rw [e] at h; exact h
    · next e =>
      rw [e] at h
      split
      · exact h.trans (Garden.kept_beginYield _ k _)
      · exact h
    · next e => rw [e] at h; exact h.trans (Garden.kept_truncate _ k _)

theorem Garden.kept_moveAlong (g : Garden) (k : Slot) (l : Lane) : g.Kept (g.moveAlong k l) := by
  unfold Garden.moveAlong
  split
  · exact .refl g
  · dsimp only
    refine Garden.Kept.trans ?_ (Garden.kept_testLaneEnd _ k)
    refine Garden.Kept.trans ?_ (Garden.kept_fillWindow _ k)
    split
    · refine (g.kept_onMap _ (MapUnit.kept_foldl _ (fun m a => ?_) _ _)).trans (Garden.kept_setLane _ k _)
      exact (m.kept_release k a).trans (MapUnit.kept_stampMown _ _ _)
    · exact .refl g

theorem Garden.kept_setAsideCell (g : Garden) (k : Slot) (a : CellAddr) : g.Kept (g.setAsideCell k a) := by
  unfold Garden.setAsideCell
  dsimp only
  split
  · exact .refl g
  · exact g.kept_setSetAside k _

theorem Garden.kept_resumeYield (g : Garden) (k : Slot) (a : CellAddr) : g.Kept (g.resumeYield k a) := by
  have h := (g.kept_onMap _ (MapUnit.kept_claim g.ground k a)).trans (Garden.kept_setYield _ k none)
  unfold Garden.resumeYield
  dsimp only
  split
  · exact ((h.trans (Garden.kept_enter _ k _)).trans (Garden.kept_postOrder _ k _)).trans (Garden.kept_fillWindow _ k)
  · exact h

theorem Garden.kept_endBefore (g : Garden) (k : Slot) (a : CellAddr) : g.Kept (g.endBefore k a) := by
  have h := g.kept_setYield k none
  unfold Garden.endBefore
  dsimp only
  split
  · exact (h.trans (Garden.kept_truncate _ k _)).trans (Garden.kept_endLane _ k _)
  · exact h.trans (Garden.kept_endLane _ k _)

theorem Garden.kept_retryYield (g : Garden) (k : Slot) : g.Kept (g.retryYield k) := by
  unfold Garden.retryYield
  split
  · exact .refl g
  · split
    · exact g.kept_resumeYield k _
    · exact .refl g
    · exact g.kept_endBefore k _
    · exact g.kept_endBefore k _

theorem Garden.kept_expireYield (g : Garden) (k : Slot) : g.Kept (g.expireYield k) := by
  unfold Garden.expireYield
  split
  · exact .refl g
  · split
    · exact g.kept_resumeYield k _
    · exact (g.kept_setAsideCell k _).trans (Garden.kept_endBefore _ k _)

theorem Garden.kept_updatePosition (g : Garden) (k : Slot) : g.Kept (g.updatePosition k) := by
  unfold Garden.updatePosition
  split
  · split
    · exact g.kept_moveAlong k _
    · exact g.kept_nextLane k _
  · exact g.kept_retryYield k
  all_goals exact .refl g

theorem Garden.kept_arrive (g : Garden) (k : Slot) : g.Kept (g.arrive k) := by
  unfold Garden.arrive
  split
  · exact .refl g
  · split
    · exact .refl g
    · split
      · exact ((((g.kept_onMap _ (MapUnit.kept_claim _ k _)).trans (Garden.kept_setLane _ k _)).trans
          (Garden.kept_enter _ k _)).trans (Garden.kept_fillWindow _ k)).trans (Garden.kept_testLaneEnd _ k)
      · exact (g.kept_setAsideCell k _).trans (Garden.kept_nextLaneIn _ k _)
      · exact g.kept_nextLaneIn k _
      · exact g.kept_nextLaneIn k _

theorem Garden.kept_withdrawLane (z : ZoneId) (g : Garden) (k : Slot) : g.Kept (Garden.withdrawLane z g k) := by
  unfold Garden.withdrawLane
  split
  · exact .refl g
  · split
    · split
      · exact g.kept_chooseOrHome k
      · exact ((g.kept_setYield k _).trans (Garden.kept_truncate _ k _)).trans (Garden.kept_endLane _ k _)
      · exact g.kept_truncate k _
      · exact g.kept_truncate k _
      all_goals exact .refl g
    · exact .refl g

theorem Garden.kept_zoneWithdrawn (g : Garden) (z : ZoneId) : g.Kept (g.zoneWithdrawn z) := by
  unfold Garden.zoneWithdrawn
  dsimp only
  refine Garden.Kept.trans ?_ (Garden.kept_foldl (Garden.withdrawLane z) (Garden.kept_withdrawLane z) allSlots _)
  split
  · exact (g.kept_removeDue z).trans (Garden.kept_endAssignment _ _ z)
  · exact g.kept_removeDue z

theorem Garden.kept_zoneRestored (g : Garden) (z : ZoneId) : g.Kept (g.zoneRestored z) := by
  unfold Garden.zoneRestored
  split
  · exact g.kept_enterDue z
  · exact .refl g

theorem Garden.kept_obstacleAhead (g : Garden) (a : CellAddr) : g.Kept (g.obstacleAhead a) := by
  refine Garden.kept_foldl _ (fun h k => ?_) _ g
  split
  · exact .refl h
  · split
    · exact .refl h
    · split
      · exact h.kept_truncate k _
      · exact .refl h

theorem Garden.kept_blockNotice (g : Garden) (k : Slot) (a : CellAddr) : g.Kept (g.blockNotice k a) := by
  unfold Garden.blockNotice
  dsimp only
  split
  · exact g.kept_pauseFor k _
  · exact (((g.kept_pauseFor k _).trans (Garden.kept_setYield _ k _)).trans (Garden.kept_truncate _ k _)).trans
      (Garden.kept_endLane _ k _)

theorem Garden.kept_revokeNotice (g : Garden) (k : Slot) (l : List CellAddr) : g.Kept (g.revokeNotice k l) := by
  unfold Garden.revokeNotice
  dsimp only
  split
  · exact g.kept_pauseFor k _
  · exact (((g.kept_pauseFor k _).trans (Garden.kept_setYield _ k _)).trans (Garden.kept_truncate _ k _)).trans
      (Garden.kept_endLane _ k _)

theorem Garden.kept_revokeNotices (g : Garden) (lost : Slot → List CellAddr) : g.Kept (g.revokeNotices lost) :=
  Garden.kept_foldl _ (fun h k => by split; exacts [.refl h, h.kept_revokeNotice k _]) _ g

/-! ### Dispatch, weather and hours, recovered mowers (R80, R96, R97, R99) -/

theorem Garden.kept_passSlots (l : List Slot) (g : Garden) : g.Kept (Garden.passSlots l g) := by
  induction l generalizing g with
  | nil => exact .refl g
  | cons k l ih =>
    unfold Garden.passSlots
    split
    · have h := g.kept_zoneChoice k
      split
      · next e => rw [e] at h; exact h.trans (ih _)
      · next e => rw [e] at h; exact h
    · exact ih g

theorem Garden.kept_dispatchPass (g : Garden) : g.Kept g.dispatchPass := by
  unfold Garden.dispatchPass
  split
  · exact Garden.kept_passSlots _ g
  · exact .refl g

theorem Garden.kept_recover (g : Garden) (k : Slot) : g.Kept (g.recover k) := by
  unfold Garden.recover
  repeat' split
  all_goals first
    | exact g.kept_sendHome k _
    | exact g.kept_chooseOrHome k
    | skip
  dsimp only
  split
  · exact (g.kept_assign k _).trans (Garden.kept_giveLane _ k _)
  · exact ((g.kept_assign k _).trans (Garden.kept_completeRound _ k _)).trans (Garden.kept_chooseOrHome _ k)

/-- The cleared plans of a PLANNER restart (R101). -/
theorem Garden.kept_clearPlans (g : Garden) : g.Kept g.clearPlans := by
  unfold Garden.clearPlans
  refine .trans ?_ (Garden.kept_foldl Garden.releaseAll Garden.kept_releaseAll _ _)
  refine .trans ?_ (Garden.kept_onMap _ _ (MapUnit.kept_mapZones _ _ fun _ => rfl))
  refine .trans ?_ (Garden.kept_foldl Garden.retrack Garden.kept_retrack _ _)
  exact g.kept_setPlanner _ rfl

/-- A PLANNER restart (R101). -/
theorem Garden.kept_restartPlanner (g : Garden) : g.Kept g.restartPlanner :=
  (((g.kept_sendAllHome .recall).trans (Garden.kept_clearPlans _)).trans (Garden.kept_buildQueue _)).trans
    (Garden.kept_dispatchPass _)

/-- Quiet hours judged: only the judged state and the mowers change (R97). -/
theorem Garden.kept_judgeQuiet (g : Garden) :
    Garden.Kept (g.setPlanner { g.planner with quiet := g.inQuiet }) g.judgeQuiet := by
  unfold Garden.judgeQuiet
  dsimp only
  split
  · exact Garden.kept_sendAllHome _ _
  · split
    · exact Garden.kept_dispatchPass _
    · exact .refl _

end Sys2Proof.Machine
end

