-- ==== Sys2Proof/Laws/State.lean ====
section
/-! SUPPORT. One lemma per field for each update of a record: what the update writes and what it leaves. -/

namespace Sys2Proof.Machine

/-! ### `Bench.setWater` -/

@[simp] theorem Bench.setWater_time (b : Bench) (w : WaterUnit) : (b.setWater w).time = b.time := rfl

@[simp] theorem Bench.setWater_clock (b : Bench) (w : WaterUnit) : (b.setWater w).clock = b.clock := rfl

@[simp] theorem Bench.setWater_reports (b : Bench) (w : WaterUnit) : (b.setWater w).reports = b.reports := rfl

@[simp] theorem Bench.setWater_ground (b : Bench) (w : WaterUnit) : (b.setWater w).ground = b.ground := rfl

@[simp] theorem Bench.setWater_fleet (b : Bench) (w : WaterUnit) : (b.setWater w).fleet = b.fleet := rfl

@[simp] theorem Bench.setWater_water (b : Bench) (w : WaterUnit) : (b.setWater w).water = w := rfl

@[simp] theorem Bench.setWater_shows (b : Bench) (w : WaterUnit) : (b.setWater w).shows = b.shows := rfl

@[simp] theorem Bench.setWater_lights (b : Bench) (w : WaterUnit) : (b.setWater w).lights = b.lights := rfl

@[simp] theorem Bench.setWater_power (b : Bench) (w : WaterUnit) : (b.setWater w).power = b.power := rfl

@[simp] theorem Bench.setWater_freeDrawn (b : Bench) (w : WaterUnit) : (b.setWater w).freeDrawn = b.freeDrawn := rfl

/-! ### `Bench.setShows` -/

@[simp] theorem Bench.setShows_time (b : Bench) (u : ShowUnit) : (b.setShows u).time = b.time := rfl

@[simp] theorem Bench.setShows_clock (b : Bench) (u : ShowUnit) : (b.setShows u).clock = b.clock := rfl

@[simp] theorem Bench.setShows_reports (b : Bench) (u : ShowUnit) : (b.setShows u).reports = b.reports := rfl

@[simp] theorem Bench.setShows_ground (b : Bench) (u : ShowUnit) : (b.setShows u).ground = b.ground := rfl

@[simp] theorem Bench.setShows_fleet (b : Bench) (u : ShowUnit) : (b.setShows u).fleet = b.fleet := rfl

@[simp] theorem Bench.setShows_water (b : Bench) (u : ShowUnit) : (b.setShows u).water = b.water := rfl

@[simp] theorem Bench.setShows_shows (b : Bench) (u : ShowUnit) : (b.setShows u).shows = u := rfl

@[simp] theorem Bench.setShows_lights (b : Bench) (u : ShowUnit) : (b.setShows u).lights = b.lights := rfl

@[simp] theorem Bench.setShows_power (b : Bench) (u : ShowUnit) : (b.setShows u).power = b.power := rfl

@[simp] theorem Bench.setShows_freeDrawn (b : Bench) (u : ShowUnit) : (b.setShows u).freeDrawn = b.freeDrawn := rfl

/-! ### `Bench.setContext` -/

@[simp] theorem Bench.setContext_time (b : Bench) (x : ShowContext) : (b.setContext x).time = b.time := rfl

@[simp] theorem Bench.setContext_clock (b : Bench) (x : ShowContext) : (b.setContext x).clock = b.clock := rfl

@[simp] theorem Bench.setContext_reports (b : Bench) (x : ShowContext) : (b.setContext x).reports = b.reports := rfl

@[simp] theorem Bench.setContext_ground (b : Bench) (x : ShowContext) : (b.setContext x).ground = b.ground := rfl

@[simp] theorem Bench.setContext_fleet (b : Bench) (x : ShowContext) : (b.setContext x).fleet = b.fleet := rfl

@[simp] theorem Bench.setContext_water (b : Bench) (x : ShowContext) : (b.setContext x).water = b.water := rfl

@[simp] theorem Bench.setContext_shows (b : Bench) (x : ShowContext) :
    (b.setContext x).shows = { b.shows with ctx := x } := rfl

@[simp] theorem Bench.setContext_lights (b : Bench) (x : ShowContext) : (b.setContext x).lights = b.lights := rfl

@[simp] theorem Bench.setContext_power (b : Bench) (x : ShowContext) : (b.setContext x).power = b.power := rfl

@[simp] theorem Bench.setContext_freeDrawn (b : Bench) (x : ShowContext) :
    (b.setContext x).freeDrawn = b.freeDrawn := rfl

/-! ### `Bench.setHeights` -/

@[simp] theorem Bench.setHeights_time (b : Bench) (n : Nozzle) (h : Heights) : (b.setHeights n h).time = b.time := rfl

@[simp] theorem Bench.setHeights_clock (b : Bench) (n : Nozzle) (h : Heights) :
    (b.setHeights n h).clock = b.clock := rfl

@[simp] theorem Bench.setHeights_reports (b : Bench) (n : Nozzle) (h : Heights) :
    (b.setHeights n h).reports = b.reports := rfl

@[simp] theorem Bench.setHeights_ground (b : Bench) (n : Nozzle) (h : Heights) :
    (b.setHeights n h).ground = b.ground := rfl

@[simp] theorem Bench.setHeights_fleet (b : Bench) (n : Nozzle) (h : Heights) :
    (b.setHeights n h).fleet = b.fleet := rfl

@[simp] theorem Bench.setHeights_water (b : Bench) (n : Nozzle) (h : Heights) :
    (b.setHeights n h).water = b.water := rfl

@[simp] theorem Bench.setHeights_shows (b : Bench) (n : Nozzle) (h : Heights) :
    (b.setHeights n h).shows = { b.shows with heights := nput b.shows.heights n h } := rfl

@[simp] theorem Bench.setHeights_lights (b : Bench) (n : Nozzle) (h : Heights) :
    (b.setHeights n h).lights = b.lights := rfl

@[simp] theorem Bench.setHeights_power (b : Bench) (n : Nozzle) (h : Heights) :
    (b.setHeights n h).power = b.power := rfl

@[simp] theorem Bench.setHeights_freeDrawn (b : Bench) (n : Nozzle) (h : Heights) :
    (b.setHeights n h).freeDrawn = b.freeDrawn := rfl

/-! ### `Bench.setHeld` -/

@[simp] theorem Bench.setHeld_time (b : Bench) (n : Nozzle) (v : Bool) : (b.setHeld n v).time = b.time := rfl

@[simp] theorem Bench.setHeld_clock (b : Bench) (n : Nozzle) (v : Bool) : (b.setHeld n v).clock = b.clock := rfl

@[simp] theorem Bench.setHeld_reports (b : Bench) (n : Nozzle) (v : Bool) : (b.setHeld n v).reports = b.reports := rfl

@[simp] theorem Bench.setHeld_ground (b : Bench) (n : Nozzle) (v : Bool) : (b.setHeld n v).ground = b.ground := rfl

@[simp] theorem Bench.setHeld_fleet (b : Bench) (n : Nozzle) (v : Bool) : (b.setHeld n v).fleet = b.fleet := rfl

@[simp] theorem Bench.setHeld_water (b : Bench) (n : Nozzle) (v : Bool) : (b.setHeld n v).water = b.water := rfl

@[simp] theorem Bench.setHeld_shows (b : Bench) (n : Nozzle) (v : Bool) :
    (b.setHeld n v).shows = { b.shows with held := nput b.shows.held n v } := rfl

@[simp] theorem Bench.setHeld_lights (b : Bench) (n : Nozzle) (v : Bool) : (b.setHeld n v).lights = b.lights := rfl

@[simp] theorem Bench.setHeld_power (b : Bench) (n : Nozzle) (v : Bool) : (b.setHeld n v).power = b.power := rfl

@[simp] theorem Bench.setHeld_freeDrawn (b : Bench) (n : Nozzle) (v : Bool) :
    (b.setHeld n v).freeDrawn = b.freeDrawn := rfl

/-! ### `Bench.setEngine` -/

@[simp] theorem Bench.setEngine_time (b : Bench) (e : EngineState) : (b.setEngine e).time = b.time := rfl

@[simp] theorem Bench.setEngine_clock (b : Bench) (e : EngineState) : (b.setEngine e).clock = b.clock := rfl

@[simp] theorem Bench.setEngine_reports (b : Bench) (e : EngineState) : (b.setEngine e).reports = b.reports := rfl

@[simp] theorem Bench.setEngine_ground (b : Bench) (e : EngineState) : (b.setEngine e).ground = b.ground := rfl

@[simp] theorem Bench.setEngine_fleet (b : Bench) (e : EngineState) : (b.setEngine e).fleet = b.fleet := rfl

@[simp] theorem Bench.setEngine_water (b : Bench) (e : EngineState) : (b.setEngine e).water = b.water := rfl

@[simp] theorem Bench.setEngine_shows (b : Bench) (e : EngineState) :
    (b.setEngine e).shows = { b.shows with engine := e } := rfl

@[simp] theorem Bench.setEngine_lights (b : Bench) (e : EngineState) : (b.setEngine e).lights = b.lights := rfl

@[simp] theorem Bench.setEngine_power (b : Bench) (e : EngineState) : (b.setEngine e).power = b.power := rfl

@[simp] theorem Bench.setEngine_freeDrawn (b : Bench) (e : EngineState) :
    (b.setEngine e).freeDrawn = b.freeDrawn := rfl

/-! ### `Bench.setLamp` -/

@[simp] theorem Bench.setLamp_time (b : Bench) (c : Circuit) (x : LampCircuit) : (b.setLamp c x).time = b.time := rfl

@[simp] theorem Bench.setLamp_clock (b : Bench) (c : Circuit) (x : LampCircuit) :
    (b.setLamp c x).clock = b.clock := rfl

@[simp] theorem Bench.setLamp_reports (b : Bench) (c : Circuit) (x : LampCircuit) :
    (b.setLamp c x).reports = b.reports := rfl

@[simp] theorem Bench.setLamp_ground (b : Bench) (c : Circuit) (x : LampCircuit) :
    (b.setLamp c x).ground = b.ground := rfl

@[simp] theorem Bench.setLamp_fleet (b : Bench) (c : Circuit) (x : LampCircuit) :
    (b.setLamp c x).fleet = b.fleet := rfl

@[simp] theorem Bench.setLamp_water (b : Bench) (c : Circuit) (x : LampCircuit) :
    (b.setLamp c x).water = b.water := rfl

@[simp] theorem Bench.setLamp_shows (b : Bench) (c : Circuit) (x : LampCircuit) :
    (b.setLamp c x).shows = b.shows := rfl

@[simp] theorem Bench.setLamp_lights (b : Bench) (c : Circuit) (x : LampCircuit) :
    (b.setLamp c x).lights = { b.lights with circuits := tset b.lights.circuits c x } := rfl

@[simp] theorem Bench.setLamp_power (b : Bench) (c : Circuit) (x : LampCircuit) :
    (b.setLamp c x).power = b.power := rfl

@[simp] theorem Bench.setLamp_freeDrawn (b : Bench) (c : Circuit) (x : LampCircuit) :
    (b.setLamp c x).freeDrawn = b.freeDrawn := rfl

/-! ### `Bench.setChannel` -/

@[simp] theorem Bench.setChannel_time (b : Bench) (c : ChannelId) (x : Channel) :
    (b.setChannel c x).time = b.time := rfl

@[simp] theorem Bench.setChannel_clock (b : Bench) (c : ChannelId) (x : Channel) :
    (b.setChannel c x).clock = b.clock := rfl

@[simp] theorem Bench.setChannel_reports (b : Bench) (c : ChannelId) (x : Channel) :
    (b.setChannel c x).reports = b.reports := rfl

@[simp] theorem Bench.setChannel_ground (b : Bench) (c : ChannelId) (x : Channel) :
    (b.setChannel c x).ground = b.ground := rfl

@[simp] theorem Bench.setChannel_fleet (b : Bench) (c : ChannelId) (x : Channel) :
    (b.setChannel c x).fleet = b.fleet := rfl

@[simp] theorem Bench.setChannel_water (b : Bench) (c : ChannelId) (x : Channel) :
    (b.setChannel c x).water = b.water := rfl

@[simp] theorem Bench.setChannel_shows (b : Bench) (c : ChannelId) (x : Channel) :
    (b.setChannel c x).shows = b.shows := rfl

@[simp] theorem Bench.setChannel_lights (b : Bench) (c : ChannelId) (x : Channel) :
    (b.setChannel c x).lights = b.lights := rfl

@[simp] theorem Bench.setChannel_power (b : Bench) (c : ChannelId) (x : Channel) :
    (b.setChannel c x).power = { b.power with channels := tset b.power.channels c x } := rfl

@[simp] theorem Bench.setChannel_freeDrawn (b : Bench) (c : ChannelId) (x : Channel) :
    (b.setChannel c x).freeDrawn = b.freeDrawn := rfl

/-! ### `Bench.setMower` -/

@[simp] theorem Bench.setMower_time (b : Bench) (k : Slot) (x : MowerCtx) : (b.setMower k x).time = b.time := rfl

@[simp] theorem Bench.setMower_clock (b : Bench) (k : Slot) (x : MowerCtx) : (b.setMower k x).clock = b.clock := rfl

@[simp] theorem Bench.setMower_reports (b : Bench) (k : Slot) (x : MowerCtx) :
    (b.setMower k x).reports = b.reports := rfl

@[simp] theorem Bench.setMower_ground (b : Bench) (k : Slot) (x : MowerCtx) :
    (b.setMower k x).ground = b.ground := rfl

@[simp] theorem Bench.setMower_fleet (b : Bench) (k : Slot) (x : MowerCtx) :
    (b.setMower k x).fleet = b.fleet.put k { b.fleet.get k with ctx := x } := rfl

@[simp] theorem Bench.setMower_water (b : Bench) (k : Slot) (x : MowerCtx) : (b.setMower k x).water = b.water := rfl

@[simp] theorem Bench.setMower_shows (b : Bench) (k : Slot) (x : MowerCtx) : (b.setMower k x).shows = b.shows := rfl

@[simp] theorem Bench.setMower_lights (b : Bench) (k : Slot) (x : MowerCtx) :
    (b.setMower k x).lights = b.lights := rfl

@[simp] theorem Bench.setMower_power (b : Bench) (k : Slot) (x : MowerCtx) : (b.setMower k x).power = b.power := rfl

@[simp] theorem Bench.setMower_freeDrawn (b : Bench) (k : Slot) (x : MowerCtx) :
    (b.setMower k x).freeDrawn = b.freeDrawn := rfl

/-! ### `Bench.setFleetCfg` -/

@[simp] theorem Bench.setFleetCfg_time (b : Bench) (k : Slot) (c : FleetCfg) :
    (b.setFleetCfg k c).time = b.time := rfl

@[simp] theorem Bench.setFleetCfg_clock (b : Bench) (k : Slot) (c : FleetCfg) :
    (b.setFleetCfg k c).clock = b.clock := rfl

@[simp] theorem Bench.setFleetCfg_reports (b : Bench) (k : Slot) (c : FleetCfg) :
    (b.setFleetCfg k c).reports = b.reports := rfl

@[simp] theorem Bench.setFleetCfg_ground (b : Bench) (k : Slot) (c : FleetCfg) :
    (b.setFleetCfg k c).ground = b.ground := rfl

@[simp] theorem Bench.setFleetCfg_fleet (b : Bench) (k : Slot) (c : FleetCfg) :
    (b.setFleetCfg k c).fleet = b.fleet.put k { b.fleet.get k with cfg := c } := rfl

@[simp] theorem Bench.setFleetCfg_water (b : Bench) (k : Slot) (c : FleetCfg) :
    (b.setFleetCfg k c).water = b.water := rfl

@[simp] theorem Bench.setFleetCfg_shows (b : Bench) (k : Slot) (c : FleetCfg) :
    (b.setFleetCfg k c).shows = b.shows := rfl

@[simp] theorem Bench.setFleetCfg_lights (b : Bench) (k : Slot) (c : FleetCfg) :
    (b.setFleetCfg k c).lights = b.lights := rfl

@[simp] theorem Bench.setFleetCfg_power (b : Bench) (k : Slot) (c : FleetCfg) :
    (b.setFleetCfg k c).power = b.power := rfl

@[simp] theorem Bench.setFleetCfg_freeDrawn (b : Bench) (k : Slot) (c : FleetCfg) :
    (b.setFleetCfg k c).freeDrawn = b.freeDrawn := rfl

/-! ### `Bench.post` -/

@[simp] theorem Bench.post_time (b : Bench) (r : ReportBody) : (b.post r).time = b.time := rfl

@[simp] theorem Bench.post_clock (b : Bench) (r : ReportBody) : (b.post r).clock = b.clock := rfl

@[simp] theorem Bench.post_reports (b : Bench) (r : ReportBody) : (b.post r).reports = b.reports.add b.stamp r := rfl

@[simp] theorem Bench.post_ground (b : Bench) (r : ReportBody) : (b.post r).ground = b.ground := rfl

@[simp] theorem Bench.post_fleet (b : Bench) (r : ReportBody) : (b.post r).fleet = b.fleet := rfl

@[simp] theorem Bench.post_water (b : Bench) (r : ReportBody) : (b.post r).water = b.water := rfl

@[simp] theorem Bench.post_shows (b : Bench) (r : ReportBody) : (b.post r).shows = b.shows := rfl

@[simp] theorem Bench.post_lights (b : Bench) (r : ReportBody) : (b.post r).lights = b.lights := rfl

@[simp] theorem Bench.post_power (b : Bench) (r : ReportBody) : (b.post r).power = b.power := rfl

@[simp] theorem Bench.post_freeDrawn (b : Bench) (r : ReportBody) : (b.post r).freeDrawn = b.freeDrawn := rfl

/-! ### `Bench.callAllocation` -/

@[simp] theorem Bench.callAllocation_time (b : Bench) : (b.callAllocation).time = b.time := rfl

@[simp] theorem Bench.callAllocation_clock (b : Bench) : (b.callAllocation).clock = b.clock := rfl

@[simp] theorem Bench.callAllocation_reports (b : Bench) : (b.callAllocation).reports = b.reports := rfl

@[simp] theorem Bench.callAllocation_ground (b : Bench) : (b.callAllocation).ground = b.ground := rfl

@[simp] theorem Bench.callAllocation_fleet (b : Bench) : (b.callAllocation).fleet = b.fleet := rfl

@[simp] theorem Bench.callAllocation_water (b : Bench) : (b.callAllocation).water = b.water := rfl

@[simp] theorem Bench.callAllocation_shows (b : Bench) : (b.callAllocation).shows = b.shows := rfl

@[simp] theorem Bench.callAllocation_lights (b : Bench) : (b.callAllocation).lights = b.lights := rfl

@[simp] theorem Bench.callAllocation_power (b : Bench) :
    (b.callAllocation).power = { b.power with realloc := true } := rfl

@[simp] theorem Bench.callAllocation_freeDrawn (b : Bench) : (b.callAllocation).freeDrawn = b.freeDrawn := rfl

/-! ### `Bench.callForGrant` -/

@[simp] theorem Bench.callForGrant_time (b : Bench) (i : LoadId) : (b.callForGrant i).time = b.time := rfl

@[simp] theorem Bench.callForGrant_clock (b : Bench) (i : LoadId) : (b.callForGrant i).clock = b.clock := rfl

@[simp] theorem Bench.callForGrant_reports (b : Bench) (i : LoadId) : (b.callForGrant i).reports = b.reports := rfl

@[simp] theorem Bench.callForGrant_ground (b : Bench) (i : LoadId) : (b.callForGrant i).ground = b.ground := rfl

@[simp] theorem Bench.callForGrant_fleet (b : Bench) (i : LoadId) : (b.callForGrant i).fleet = b.fleet := rfl

@[simp] theorem Bench.callForGrant_water (b : Bench) (i : LoadId) : (b.callForGrant i).water = b.water := rfl

@[simp] theorem Bench.callForGrant_shows (b : Bench) (i : LoadId) : (b.callForGrant i).shows = b.shows := rfl

@[simp] theorem Bench.callForGrant_lights (b : Bench) (i : LoadId) : (b.callForGrant i).lights = b.lights := rfl

@[simp] theorem Bench.callForGrant_power (b : Bench) (i : LoadId) :
    (b.callForGrant i).power = { b.power with loads := tset b.power.loads i { b.load i with asked := true }, realloc := true } := rfl

@[simp] theorem Bench.callForGrant_freeDrawn (b : Bench) (i : LoadId) :
    (b.callForGrant i).freeDrawn = b.freeDrawn := rfl

/-! ### `Bench.setWaterCfg` -/

@[simp] theorem Bench.setWaterCfg_time (b : Bench) (c : WaterCfg) : (b.setWaterCfg c).time = b.time := rfl

@[simp] theorem Bench.setWaterCfg_clock (b : Bench) (c : WaterCfg) : (b.setWaterCfg c).clock = b.clock := rfl

@[simp] theorem Bench.setWaterCfg_reports (b : Bench) (c : WaterCfg) : (b.setWaterCfg c).reports = b.reports := rfl

@[simp] theorem Bench.setWaterCfg_ground (b : Bench) (c : WaterCfg) : (b.setWaterCfg c).ground = b.ground := rfl

@[simp] theorem Bench.setWaterCfg_fleet (b : Bench) (c : WaterCfg) : (b.setWaterCfg c).fleet = b.fleet := rfl

@[simp] theorem Bench.setWaterCfg_water (b : Bench) (c : WaterCfg) :
    (b.setWaterCfg c).water = { b.water with cfg := c } := rfl

@[simp] theorem Bench.setWaterCfg_shows (b : Bench) (c : WaterCfg) : (b.setWaterCfg c).shows = b.shows := rfl

@[simp] theorem Bench.setWaterCfg_lights (b : Bench) (c : WaterCfg) : (b.setWaterCfg c).lights = b.lights := rfl

@[simp] theorem Bench.setWaterCfg_power (b : Bench) (c : WaterCfg) : (b.setWaterCfg c).power = b.power := rfl

@[simp] theorem Bench.setWaterCfg_freeDrawn (b : Bench) (c : WaterCfg) :
    (b.setWaterCfg c).freeDrawn = b.freeDrawn := rfl

/-! ### Tables by number -/

theorem BySlot.get_put {α : Type} (t : BySlot α) (k j : Slot) (x : α) :
    (t.put k x).get j = if j = k then x else t.get j := by
  cases k <;> cases j <;> rfl

theorem nget_nput {α : Type} (t : ByNozzle α) (n m : Nozzle) (x : α) :
    nget (nput t n x) m = if m = n then x else nget t m := by
  cases n <;> cases m <;> rfl

theorem ByStake.get_put {α : Type} (t : ByStake α) (k j : Stake) (x : α) :
    (t.put k x).get j = if j = k then x else t.get j := by
  cases k <;> cases j <;> rfl

theorem ByLine.get_put {α : Type} (t : ByLine α) (k j : Line) (x : α) :
    (t.put k x).get j = if j = k then x else t.get j := by
  cases k <;> cases j <;> rfl

@[simp] theorem nget_nmap {α β : Type} (f : α → β) (t : ByNozzle α) (n : Nozzle) : nget (nmap f t) n = f (nget t n) := by
  cases n <;> rfl

/-! ### One record read after one written -/

theorem Bench.lamp_setLamp (b : Bench) (c d : Circuit) (x : LampCircuit) :
    (b.setLamp c x).lamp d = if d = c then x else b.lamp d := tget_tset _ _ _ _

theorem Bench.channel_setChannel (b : Bench) (c d : ChannelId) (x : Channel) :
    (b.setChannel c x).channel d = if d = c then x else b.channel d := tget_tset _ _ _ _

theorem Bench.mower_setMower (b : Bench) (k j : Slot) (x : MowerCtx) :
    (b.setMower k x).mower j = if j = k then x else b.mower j := by
  unfold Bench.mower Bench.setMower
  rw [BySlot.get_put]; split <;> simp_all

/-! ### The garden -/

@[simp] theorem Garden.on_toBench (g : Garden) (f : Bench → Bench) : (g.on f).toBench = f g.toBench := rfl

@[simp] theorem Garden.on_mode (g : Garden) (f : Bench → Bench) : (g.on f).mode = g.mode := rfl

@[simp] theorem Garden.on_field (g : Garden) (f : Bench → Bench) : (g.on f).field = g.field := rfl

@[simp] theorem Garden.on_position (g : Garden) (f : Bench → Bench) : (g.on f).position = g.position := rfl

@[simp] theorem Garden.on_planner (g : Garden) (f : Bench → Bench) : (g.on f).planner = g.planner := rfl

@[simp] theorem Garden.setPlanner_toBench (g : Garden) (p : Planner) : (g.setPlanner p).toBench = g.toBench := rfl

@[simp] theorem Garden.setPlanner_mode (g : Garden) (p : Planner) : (g.setPlanner p).mode = g.mode := rfl

@[simp] theorem Garden.setPlanner_field (g : Garden) (p : Planner) : (g.setPlanner p).field = g.field := rfl

@[simp] theorem Garden.setPlanner_position (g : Garden) (p : Planner) : (g.setPlanner p).position = g.position := rfl

@[simp] theorem Garden.setPlanner_planner (g : Garden) (p : Planner) : (g.setPlanner p).planner = p := rfl

@[simp] theorem Garden.setDue_toBench (g : Garden) (q : List DueEntry) : (g.setDue q).toBench = g.toBench := rfl

@[simp] theorem Garden.setDue_mode (g : Garden) (q : List DueEntry) : (g.setDue q).mode = g.mode := rfl

@[simp] theorem Garden.setDue_field (g : Garden) (q : List DueEntry) : (g.setDue q).field = g.field := rfl

@[simp] theorem Garden.setDue_position (g : Garden) (q : List DueEntry) : (g.setDue q).position = g.position := rfl

@[simp] theorem Garden.setDue_planner (g : Garden) (q : List DueEntry) :
    (g.setDue q).planner = { g.planner with due := q } := rfl

@[simp] theorem Garden.setYield_toBench (g : Garden) (k : Slot) (y : Option Yield) :
    (g.setYield k y).toBench = g.toBench := rfl

@[simp] theorem Garden.setYield_mode (g : Garden) (k : Slot) (y : Option Yield) :
    (g.setYield k y).mode = g.mode := rfl

@[simp] theorem Garden.setYield_field (g : Garden) (k : Slot) (y : Option Yield) :
    (g.setYield k y).field = g.field := rfl

@[simp] theorem Garden.setYield_position (g : Garden) (k : Slot) (y : Option Yield) :
    (g.setYield k y).position = g.position := rfl

@[simp] theorem Garden.setYield_planner (g : Garden) (k : Slot) (y : Option Yield) :
    (g.setYield k y).planner = { g.planner with yields := g.planner.yields.put k y } := rfl

@[simp] theorem Garden.setSetAside_toBench (g : Garden) (k : Slot) (l : List CellAddr) :
    (g.setSetAside k l).toBench = g.toBench := rfl

@[simp] theorem Garden.setSetAside_mode (g : Garden) (k : Slot) (l : List CellAddr) :
    (g.setSetAside k l).mode = g.mode := rfl

@[simp] theorem Garden.setSetAside_field (g : Garden) (k : Slot) (l : List CellAddr) :
    (g.setSetAside k l).field = g.field := rfl

@[simp] theorem Garden.setSetAside_position (g : Garden) (k : Slot) (l : List CellAddr) :
    (g.setSetAside k l).position = g.position := rfl

@[simp] theorem Garden.setSetAside_planner (g : Garden) (k : Slot) (l : List CellAddr) :
    (g.setSetAside k l).planner = { g.planner with setAside := g.planner.setAside.put k l } := rfl

@[simp] theorem Garden.setTrack_toBench (g : Garden) (k : Slot) (t : Track) :
    (g.setTrack k t).toBench = g.toBench := rfl

@[simp] theorem Garden.setTrack_mode (g : Garden) (k : Slot) (t : Track) : (g.setTrack k t).mode = g.mode := rfl

@[simp] theorem Garden.setTrack_field (g : Garden) (k : Slot) (t : Track) : (g.setTrack k t).field = g.field := rfl

@[simp] theorem Garden.setTrack_position (g : Garden) (k : Slot) (t : Track) :
    (g.setTrack k t).position = { g.position with tracks := g.position.tracks.put k t } := rfl

@[simp] theorem Garden.setTrack_planner (g : Garden) (k : Slot) (t : Track) :
    (g.setTrack k t).planner = g.planner := rfl

@[simp] theorem Garden.setCapture_toBench (g : Garden) (c : Option Capture) :
    (g.setCapture c).toBench = g.toBench := rfl

@[simp] theorem Garden.setCapture_mode (g : Garden) (c : Option Capture) : (g.setCapture c).mode = g.mode := rfl

@[simp] theorem Garden.setCapture_field (g : Garden) (c : Option Capture) : (g.setCapture c).field = g.field := rfl

@[simp] theorem Garden.setCapture_position (g : Garden) (c : Option Capture) :
    (g.setCapture c).position = { g.position with capture := c } := rfl

@[simp] theorem Garden.setCapture_planner (g : Garden) (c : Option Capture) :
    (g.setCapture c).planner = g.planner := rfl

@[simp] theorem Garden.setStake_toBench (g : Garden) (k : Stake) (r : StakeRec) :
    (g.setStake k r).toBench = g.toBench := rfl

@[simp] theorem Garden.setStake_mode (g : Garden) (k : Stake) (r : StakeRec) : (g.setStake k r).mode = g.mode := rfl

@[simp] theorem Garden.setStake_field (g : Garden) (k : Stake) (r : StakeRec) :
    (g.setStake k r).field = g.field := rfl

@[simp] theorem Garden.setStake_position (g : Garden) (k : Stake) (r : StakeRec) :
    (g.setStake k r).position = { g.position with stakes := g.position.stakes.put k r } := rfl

@[simp] theorem Garden.setStake_planner (g : Garden) (k : Stake) (r : StakeRec) :
    (g.setStake k r).planner = g.planner := rfl

@[simp] theorem Garden.setSource_toBench (g : Garden) (i : SourceId) (x : Option Source) :
    (g.setSource i x).toBench = g.toBench := rfl

@[simp] theorem Garden.setSource_mode (g : Garden) (i : SourceId) (x : Option Source) :
    (g.setSource i x).mode = g.mode := rfl

@[simp] theorem Garden.setSource_field (g : Garden) (i : SourceId) (x : Option Source) :
    (g.setSource i x).field = { g.field with sources := tset g.field.sources i x } := rfl

@[simp] theorem Garden.setSource_position (g : Garden) (i : SourceId) (x : Option Source) :
    (g.setSource i x).position = g.position := rfl

@[simp] theorem Garden.setSource_planner (g : Garden) (i : SourceId) (x : Option Source) :
    (g.setSource i x).planner = g.planner := rfl

/-! ### The state -/

@[simp] theorem State.event_toGarden (s : State) (f : Garden → Garden) : (s.event f).toGarden = f s.toGarden := rfl

@[simp] theorem State.event_link (s : State) (f : Garden → Garden) : (s.event f).link = s.link := rfl

@[simp] theorem State.event_store (s : State) (f : Garden → Garden) : (s.event f).store = s.store := rfl

@[simp] theorem State.event_pending (s : State) (f : Garden → Garden) : (s.event f).pending = s.pending := rfl

end Sys2Proof.Machine
end

