-- ==== Sys2Proof/Laws/Units.lean ====
section
/-! SUPPORT. What the shared operations of the units can do: the transmit queue, the duplicate window, output
channels, and the sharing of one class of loads. -/

namespace Sys2Proof.Machine

/-! ### The transmit queue (R33, R34) -/

/-- Beginning to send keeps the bounds, given that the queue is not over-full. -/
theorem Transmit.bounded_begin {t : Transmit} (now : Nat) (h : t.size ≤ 16) (hi : t.inFlight = none) :
    (t.begin now).bounded := by
  unfold Transmit.begin Transmit.bounded
  unfold Transmit.size at h ⊢
  cases hu : t.urgent with
  | cons o u => simp [hi, hu, Transmit.send] at h ⊢; omega
  | nil =>
    cases hn : t.normal with
    | cons o u => simp [hi, hu, hn, Transmit.send] at h ⊢; omega
    | nil => simp [hi, hu, hn]

/-! ### The duplicate window (R26, R27) -/

/-- A frame that is not good leaves the window. -/
theorem Window.take_not_good (w : Window) (s : Nat) (fresh : Bool) (h : (w.take s fresh).1 ≠ .good) :
    (w.take s fresh).2 = w := by
  revert h
  unfold Window.take Window.takeFresh Window.takePlain
  cases fresh
  · simp only [Bool.false_eq_true, if_false]
    cases w.newest with
    | none => simp
    | some n => dsimp only; split <;> [simp; split <;> [split <;> simp; simp]]
  · simp only [if_true]; split <;> simp

/-! ### Output channels (R173, R174) -/

/-- Everything a judgement can do to a channel that is not TRIPPED: the level driven (as a switch now, or as no
switch, with no hold left), a hold that already ran, or a hold begun. -/
theorem Channel.judge_cases (c : Channel) (now : Nat) (h : c.state ≠ .tripped) :
    (c.needsSwitch c.requested = false ∧ c.judge now = { c.drive c.requested with holdExpiry := none }) ∨
    (c.needsSwitch c.requested = true ∧ c.holdExpiry.isSome = true ∧ c.judge now = c) ∨
    (c.needsSwitch c.requested = true ∧ c.holdExpiry = none ∧
      ((∀ t, c.lastSwitch = some t → t + c.cfg.interval * 1000 ≤ now) ∧
        c.judge now = { c.drive c.requested with lastSwitch := some now } ∨
      (∃ t, c.lastSwitch = some t ∧ now < t + c.cfg.interval * 1000 ∧
        c.judge now = { c with holdExpiry := some (t + c.cfg.interval * 1000) }))) := by
  unfold Channel.judge
  simp only [h, if_false]
  cases hn : c.needsSwitch c.requested with
  | false => simp
  | true =>
    cases hh : c.holdExpiry with
    | some e => simp
    | none =>
      cases ht : c.lastSwitch with
      | none => simp
      | some t =>
        by_cases hw : t + c.cfg.interval * 1000 ≤ now
        · simp [hw]
        · simp [hw]; omega

/-- A TRIPPED channel is not moved by a judgement. -/
theorem Channel.judge_tripped (c : Channel) (now : Nat) (h : c.state = .tripped) : c.judge now = c := by
  simp [Channel.judge, h]

/-- Carrying a level changes the channels alone. -/
theorem Bench.carry_rest (b : Bench) (f : Fn) :
    b.carry f = { b with power := { b.power with channels := (b.carry f).power.channels } } := by
  unfold Bench.carry; split <;> rfl

/-! ### The sharing of one class (R170) -/

theorem handOut_length : ∀ (n : Nat) (asks shares : List Nat), (handOut n asks shares).length = shares.length
  | _, [], [] => rfl
  | _, [], _ :: _ => rfl
  | _, _ :: _, [] => rfl
  | n, a :: asks, g :: shares => by
    unfold handOut; split <;> simp [handOut_length]

theorem shareOut_length (r : Nat) (asks : List Nat) : (shareOut r asks).length = asks.length := by
  unfold shareOut; split <;> simp [handOut_length]

/-- Where the watts suffice, the grants are the asks. -/
theorem shareOut_of_le {r : Nat} {asks : List Nat} (h : asks.sum ≤ r) : shareOut r asks = asks := if_pos h

/-- Handing out adds at most one watt to each share, and only where something is asked. -/
theorem handOut_le : ∀ (n : Nat) (asks shares : List Nat) (i : Nat),
    (handOut n asks shares).getD i 0 ≤ shares.getD i 0 + (if 0 < asks.getD i 0 then 1 else 0)
  | _, [], shares, i => by cases shares <;> simp [handOut]
  | _, _ :: _, [], i => by simp [handOut]
  | n, a :: asks, g :: shares, i => by
    unfold handOut
    split
    · rename_i h
      cases i with
      | zero => simp [h.2]
      | succ i => simpa using handOut_le (n - 1) asks shares i
    · cases i with
      | zero => simp
      | succ i => simpa using handOut_le n asks shares i

end Sys2Proof.Machine
end

