-- ==== Sys2Proof/WellFormed.lean ====
section
/-! DEFINITION. The well-formed commands: operands that the wire can carry. A number fits the bytes that
R195 gives its field; a code outside a set of names is none of the set's codes; a ramp of 0xFFFF is DEFAULT
and nothing else; a set of circuits stands in ascending order; SHOW_APPEND holds 1 to 24 steps (R185).
A command outside these can be run, but stands for no request of the link. -/

namespace Sys2Proof

/-- A number fits an unsigned field of `w` bytes (R195). -/
def fits (w n : Nat) : Bool := decide (n < 256 ^ w)

/-- An optional number fits its field. -/
def optFits (w : Nat) (n : Option Nat) : Bool := n.all (fits w)

/-- A body that passes a check on its fields, or one of a wrong length. -/
def Body.wf {α : Type} (p : α → Bool) : Body α → Bool
  | .wrongLength => true
  | .fields a => p a

/-- A coded name of a set of `n` names: an unknown code is a byte outside 1–n (R195). -/
def Coded.wf {α : Type} (n : Nat) : Coded α → Bool
  | .named _ => true
  | .unknown k => fits 1 k && decide (k = 0 ∨ n < k)

/-- A set of circuits in ascending order, none twice. -/
def circuitsWf (l : List Circuit) : Bool := decide (l.Pairwise (· < ·))

/-- A ramp time of two bytes; 0xFFFF is DEFAULT (R195). -/
def rampWf (r : Option Nat) : Bool := r.all (fun m => decide (m < 65535))

/-- A show step whose fields fit their bytes (R195). -/
def ShowStep.wf : ShowStep → Bool
  | .scene l => circuitsWf l
  | .nozzle n t r => fits 1 n && fits 2 t && rampWf r
  | .light c t r => fits 1 c && fits 2 t && rampWf r
  | .rampDefault ms => fits 2 ms
  | .wait ms => fits 3 ms
  | .save => true
  | .restore => true
  | .mark => true
  | .repeatLoop n => fits 1 n
  | .sceneEnd => true
  | .unknown k => fits 1 k && decide (k = 0 ∨ 10 < k)

/-- The steps of a SHOW_APPEND (R185). -/
def stepsWf (l : List ShowStep) : Bool := decide (1 ≤ l.length ∧ l.length ≤ 24) && l.all ShowStep.wf

def MapFill.wf (q : MapFill) : Bool :=
  fits 1 q.firstCol && fits 1 q.lastCol && fits 1 q.firstRow && fits 1 q.lastRow && fits 1 q.zone

def ZoneSet.wf (q : ZoneSet) : Bool :=
  fits 1 q.zone && q.kind.wf 5 && fits 1 q.interval && fits 1 q.cutHeight && optFits 1 q.circuit &&
    optFits 1 q.splash && fits 2 q.escort

def CellsGet.wf (q : CellsGet) : Bool :=
  fits 1 q.row && fits 1 q.firstCol && fits 1 q.lastCol && fits 1 q.page

def PagedGet.wf (q : PagedGet) : Bool := fits 1 q.number && fits 1 q.page

def TimeSet.wf (q : TimeSet) : Bool := fits 2 q.day && fits 3 q.second

def SourceSet.wf (q : SourceSet) : Bool := fits 1 q.source && q.kind.wf 5 && q.binding.wf 3

def CalibrateStake.wf (q : CalibrateStake) : Bool := fits 1 q.stake && fits 2 q.x && fits 2 q.y && fits 1 q.slot

def FleetSet.wf (q : FleetSet) : Bool :=
  fits 1 q.slot && fits 1 q.source && fits 2 q.ratedWatts && fits 1 q.timeout && fits 1 q.dispatchLevel &&
    fits 1 q.homeboundLevel

def PlanSet.wf (q : PlanSet) : Bool :=
  fits 1 q.obstacleHold && fits 1 q.yieldTime && fits 2 q.dryWait && fits 2 q.quietStart && fits 2 q.quietEnd

def WaterLevelsSet.wf (q : WaterLevelsSet) : Bool :=
  fits 2 q.filterLow && fits 2 q.fountainLow && fits 2 q.fillOn && fits 2 q.fillOff

def TopupSet.wf (q : TopupSet) : Bool := fits 1 q.capMinutes && fits 1 q.watts

def FilterSet.wf (q : FilterSet) : Bool :=
  fits 2 q.k100 && fits 2 q.qMin && fits 2 q.dpMax && fits 2 q.dpClog && q.merit.wf 3 && fits 1 q.settleTime &&
    fits 1 q.lookBeyond && fits 2 q.monitorInterval && fits 1 q.confirmCount && fits 2 q.backwashTime &&
    fits 1 q.backwashSpacing && fits 1 q.drainTime

def PumpCurveSet.wf (q : PumpCurveSet) : Bool := q.watts.toList.all (fits 2) && fits 1 q.minStep && fits 2 q.fullWatts

def NozzleSet.wf (q : NozzleSet) : Bool := fits 2 q.splashThreshold && fits 1 q.dryOffMinutes

def ShowSet.wf (q : ShowSet) : Bool :=
  fits 2 q.calm && fits 2 q.cutoff && q.nozzles.n1.wf && q.nozzles.n2.wf && q.nozzles.n3.wf && q.nozzles.n4.wf

def LightSet.wf (q : LightSet) : Bool :=
  fits 1 q.circuit && fits 2 q.ratedWatts && fits 2 q.frequency && fits 2 q.fadeRate && fits 2 q.duskLevel &&
    fits 2 q.nightLevel && fits 2 q.lateLevel && fits 2 q.motionLevel && fits 2 q.openThreshold &&
    fits 2 q.shortLimit

def LightScheduleSet.wf (q : LightScheduleSet) : Bool := fits 2 q.lateTime && fits 2 q.motionHold

def MotionMapSet.wf (q : MotionMapSet) : Bool := fits 1 q.entry && optFits 1 q.source && circuitsWf q.circuits

def LightManual.wf (q : LightManual) : Bool := fits 1 q.circuit && optFits 2 q.level

def SupplySet.wf (q : SupplySet) : Bool := fits 2 q.capacity && fits 1 q.reserve && fits 2 q.fullScale

def ChannelSet.wf (q : ChannelSet) : Bool :=
  fits 1 q.channel && q.type.wf 3 && q.function.all (Coded.wf 23) && optFits 1 q.interval && fits 2 q.tripCurrent

/-- The request kinds of R185 hold the codes 0x10 to 0x49; a REQUEST_UNKNOWN_KIND carries another byte. -/
def unknownKindWf (k : Nat) : Bool := fits 1 k && decide (k < 0x10 ∨ 0x49 < k)

/-- A well-formed command. -/
def Instr.wf : Instr → Bool
  | .powerOn _ => true
  | .hostFrameEnd _ _ => true
  | .hostBadLength byte _ => decide (200 < byte.toNat)
  | .hostFrameTimeout => true
  | .replySent => true
  | .requestUnknownKind kind => unknownKindWf kind
  | .settingsStore _ => true
  | .modeSetup _ => true
  | .modeRun _ => true
  | .restart _ _ => true
  | .unitRestartField _ => true
  | .unitRestartFleet _ => true
  | .unitRestartPlanner _ => true
  | .unitRestartWater _ _ => true
  | .unitRestartShow _ => true
  | .unitRestartLights _ => true
  | .timeSet b => b.wf TimeSet.wf
  | .statusGet b => b.wf (fits 1)
  | .reportsFetch _ => true
  | .reportMaskSet _ => true
  | .mapFill b => b.wf MapFill.wf
  | .zoneSet b => b.wf ZoneSet.wf
  | .zoneGet b => b.wf PagedGet.wf
  | .cellsGet b => b.wf CellsGet.wf
  | .zoneWithdraw b => b.wf (fits 1)
  | .zoneRestore b => b.wf (fits 1)
  | .sourceSet b => b.wf SourceSet.wf
  | .sourceRemove b => b.wf (fits 1)
  | .sourceGet b => b.wf (fits 1)
  | .countersCapture _ => true
  | .calibrateStake b => b.wf CalibrateStake.wf
  | .calibrateSolve _ => true
  | .calibrationGet _ => true
  | .fleetSet b => b.wf FleetSet.wf
  | .mowerGet b => b.wf PagedGet.wf
  | .mowerHold b => b.wf (fits 1)
  | .mowerRelease b => b.wf (fits 1)
  | .mowerRecall b => b.wf (fits 1)
  | .mowerClearFault b => b.wf (fits 1)
  | .mowerDispatch b => b.wf (fits 1)
  | .planSet b => b.wf PlanSet.wf
  | .mowingEnable _ => true
  | .waterLevelsSet b => b.wf WaterLevelsSet.wf
  | .topupSet b => b.wf TopupSet.wf
  | .filterSet b => b.wf FilterSet.wf
  | .pumpCurveSet b => b.wf PumpCurveSet.wf
  | .filterStart _ => true
  | .filterStop _ => true
  | .filterBackwash _ => true
  | .filterClearFault _ => true
  | .waterGet b => b.wf (fits 1)
  | .showSet b => b.wf ShowSet.wf
  | .showAppend b => b.wf stepsWf
  | .showStart _ => true
  | .showPause _ => true
  | .showResume _ => true
  | .showReset _ => true
  | .showGet b => b.wf (fits 1)
  | .lightSet b => b.wf LightSet.wf
  | .lightScheduleSet b => b.wf LightScheduleSet.wf
  | .motionMapSet b => b.wf MotionMapSet.wf
  | .lightManual b => b.wf LightManual.wf
  | .lightClearFault b => b.wf (fits 1)
  | .lightGet b => b.wf PagedGet.wf
  | .supplySet b => b.wf SupplySet.wf
  | .channelSet b => b.wf ChannelSet.wf
  | .channelReset b => b.wf (fits 1)
  | .powerGet b => b.wf (fits 1)
  | .channelGet b => b.wf (fits 1)
  | .fieldFrameEnd _ => true
  | .orderAirTimeEnd => true
  | .blockListExpiry => true
  | .wetMarkExpiry _ _ => true
  | .captureDeadline => true
  | .heartbeatExpiry _ => true
  | .arrivalExpiry _ => true
  | .yieldExpiry _ => true
  | .passTimer => true
  | .dryWaitExpiry => true
  | .rainSilent => true
  | .clockSecond => true
  | .topupCapPeriodEnd => true
  | .levelSample _ => true
  | .topupCapReached => true
  | .settleExpiry => true
  | .gateClose _ _ => true
  | .monitorIntervalEnd => true
  | .backwashExpiry => true
  | .storeWriteEnd _ => true
  | .showTick => true
  | .waitEnd => true
  | .windSilent => true
  | .duskDwellExpiry => true
  | .duskSilent => true
  | .motionHoldExpiry _ => true
  | .escortHoldExpiry _ _ => true
  | .currentSample _ => true
  | .lampOpenFault _ => true
  | .supplySample _ => true
  | .powerDerated => true
  | .powerRestored => true
  | .switchHoldExpiry _ => true
  | .hostByteReceived _ _ => true
  | .fieldByteReceived _ _ _ => true
  | .flowPulse => true

end Sys2Proof
end

