-- ==== Sys2Proof/Tests/Slice0.lean ====
section
/-! SUPPORT. Tests of one step each: the well-formedness checks, the manual's worked figures, and for every
obligation with hypotheses a state and operands that meet them. -/

-- Proofs checked one after another: each kernel evaluation in a thread of its own would ask for too much memory.
set_option Elab.async false

open Sys2Proof Sys2Proof.Machine

/-! ### Well-formedness: each check refuses an ill-formed command -/

theorem test_wf_fits : Instr.wf (.statusGet (.fields 256)) = false := by decide
theorem test_wf_unknownCode : Instr.wf (.sourceSet (.fields ⟨1, .unknown 5, .named .a⟩)) = false := by decide
theorem test_wf_circuits : Instr.wf (.motionMapSet (.fields ⟨1, none, [2, 1]⟩)) = false := by decide
theorem test_wf_ramp : Instr.wf (.showAppend (.fields [.nozzle 1 0 (some 65535)])) = false := by decide
theorem test_wf_step : Instr.wf (.showAppend (.fields [.wait 16777216])) = false := by decide
theorem test_wf_stepKind : Instr.wf (.showAppend (.fields [.unknown 10])) = false := by decide
theorem test_wf_noSteps : Instr.wf (.showAppend (.fields [])) = false := by decide
theorem test_wf_badLength : Instr.wf (.hostBadLength 200 false) = false := by decide
theorem test_wf_knownKind : Instr.wf (.requestUnknownKind 0x49) = false := by decide
theorem test_wf_optional : Instr.wf (.lightManual (.fields ⟨1, some 65536⟩)) = false := by decide
theorem test_wf_good : Instr.wf (.showAppend (.fields [.scene [0, 3], .nozzle 1 900 none, .wait 500, .sceneEnd])) = true := by
  decide

/-! ### Figures that the manual works out -/

/-- The CRC's check value (R182). -/
theorem test_crc : crc16 [0x31, 0x32, 0x33, 0x34, 0x35, 0x36, 0x37, 0x38, 0x39] = 0x29B1 := by decide +kernel

/-- The four rows of R110, with Qmin = 400 and ΔPmax = 300. -/
theorem test_merit : let f := fun q dp => figureOfMerit FilterCfg.factory ⟨0, q, dp, 0, dp⟩
    (f 440 150, f 399 0, f 300 700, f 1400 190) = (100, -2, -1000, 366) := by decide

/-- The example of R170: 120 W over asks of 30, 100 and 60. -/
theorem test_share : shareOut 120 [30, 100, 60] = [19, 64, 37] := by decide

/-- The ramps of R132. -/
theorem test_ramps : [1, 2].map (rampValue 0 1000 3) = [333, 666] ∧ [1, 2].map (rampValue 1000 0 3) = [667, 334] ∧
    [1, 2, 3].map (rampValue 200 900 20) = [235, 270, 305] := by decide

/-- The example of R102: 405, 399, 404 and 410 mm with filter-low 400. -/
theorem test_starved : let f := fun was l => levelFlag was 400 410 l
    (f false 405, f false 399, f true 404, f true 410) = (false, true, true, false) := by decide

/-- The steps of R167 and R168 with C = 1,234. -/
theorem test_derating : let p := fun c => { State.reset.power with cfg := ⟨1234, 50, 4000⟩, ceff := c }
    ([1234, 1111, 988, 865, 742, 619].map (fun c => (p c).lowered) = [1111, 988, 865, 742, 619, 617]) ∧
    [617, 740, 863, 986, 1109, 1232].map (fun c => (p c).raised) = [740, 863, 986, 1109, 1232, 1234] := by decide

/-- Reset is the state that a power-on with blank copies and 0 V on LEVEL leaves (R189). -/
theorem test_reset_is_powerOn : execPowerOn 0 State.reset = .next State.reset :=
  congrArg Host.Outcome.next (by decide +kernel : State.reset.boot 0 = State.reset)

/-- The cap period of R105 with the clock UNSET: its end clears the count of 5 s at second 86,400 and, once taken, not
again before second 172,800; at second 86,399 it changes nothing. -/
theorem test_capPeriod :
    let s := fun secs from' => ({ State.reset with
      time := ⟨secs, 0⟩, water := { State.reset.water with capCount := 5, capFrom := from' } } : State)
    let count := fun s => match execTopupCapPeriodEnd s with
      | .next t => some (t.water.capCount, t.water.capFrom)
      | _ => none
    [s 86399 0, s 86400 0, s 172799 86400, s 172800 86400].map count =
      [some (5, 0), some (0, 86400), some (5, 86400), some (0, 172800)] := by decide +kernel

/-! ### States that meet the hypotheses of the obligations -/

/-- Reset in RUN. -/
def running : State := { State.reset with mode := .run }

/-- Reset with a store write under way. -/
def writing : State := { State.reset with store := ⟨none, none, some ⟨1, .one, Settings.factory, 0⟩⟩ }

/-- Reset with a queue of requests. -/
def waitingLink (q : List QueuedRequest) (answered : Bool) : State :=
  { State.reset with link := { Link.start with queue := q, answered := answered } }

/-- Reset with the receiver in a state. -/
def receiving (r : HostRx) : State := { State.reset with link := { Link.start with rx := r } }

/-- Slot 0 bound to source 1, with a mower context. -/
def bound (m : Mode) (x : MowerCtx) : State :=
  { State.reset with mode := m, fleet := { State.reset.fleet with s0 := ⟨⟨some 0, 120, 6, 80, 25⟩, x, 0⟩ } }

/-- A mower context in a state. -/
def ctx (s : MowerState) : MowerCtx := { MowerCtx.start with state := s }

/-- Channel 1 carries a function, with the rest of a channel record. -/
def withChannel (x : Channel) : State :=
  { State.reset with power := { State.reset.power with channels := tset State.reset.power.channels 0 x } }

/-- A state at the start of a later running second. -/
def later (n : Nat) (s : State) : State := { s with time := ⟨n, 0⟩ }

/-- One source in the table, with a receiver state on line A. -/
def heard (i : SourceId) (src : Source) (r : FieldRx) : State :=
  { State.reset with field := { State.reset.field with
      rx := ⟨r, FieldRx.idle⟩, sources := tset State.reset.field.sources i (some src) } }

/-- A source of a kind, bound to both lines, that has heard nothing. -/
def fresh (k : SourceKind) : Source := ⟨⟨k, .both⟩, none, Window.empty⟩

theorem meets_StepRunsTheFrontCommand :
    { State.reset with pending := [.flowPulse, .replySent] }.pending = [.flowPulse, .replySent] ∧
    State.reset.pending = [] := ⟨rfl, rfl⟩

/-- A full queue with counters at their limit and a byte that could overfill both; a full report queue and a
silence that reports. -/
theorem meets_LinkAndReportBoundsKept :
    (∃ s t : State, s.link.bounded ∧ s.link.queue.length = 4 ∧ step s = .next t) ∧
    (∃ s t : State, s.reports.bounded ∧ s.reports.queue.length = 32 ∧ s.silentFor .dusk 600 = true ∧ step s = .next t) :=
  ⟨⟨{ State.reset with
      pending := [.hostFrameEnd 0 false],
      link := ⟨⟨.gathering, 0, [5, 0, 0], false⟩, ⟨65535, 65535, 65535, 65535, 65535⟩, List.replicate 4 ⟨5, 0, []⟩, true, none⟩ },
      _, by unfold Link.bounded; decide, rfl, rfl⟩,
    ⟨{ later 601 (heard 39 (fresh .dusk) FieldRx.idle) with
      pending := [.duskSilent], reports := ⟨List.replicate 32 ⟨.running 0, .showEnded⟩, 255, allReports⟩ },
      _, by unfold Reports.bounded; decide, rfl, by decide +kernel, rfl⟩⟩

/-- The available watts granted to the last, and a lamp at its cap. -/
theorem meets_GrantsAndLampsBounded :
    let lamp := { LampCircuit.start { CircuitCfg.factory with inUse := true } with output := 1000, state := .lit }
    let s := { State.reset with
      pending := [.duskSilent],
      lights := { State.reset.lights with circuits := tset State.reset.lights.circuits 0 lamp },
      power := { State.reset.power with
        loads := tset (tset (Vector.replicate 18 Load.zero) filterLoad ⟨180, 910, 180, 910, false⟩)
          (lightLoad 0) ⟨0, 50, 0, 50, false⟩ } }
    (s.power.loads.toList.map (fun l => l.grantA + l.grantB)).sum = s.power.available ∧ s.power.wattsBounded ∧
      s.lampsBounded ∧ ∃ t, step s = .next t :=
  ⟨by decide +kernel, by unfold PowerUnit.wattsBounded; decide +kernel, by unfold Bench.lampsBounded; decide +kernel, _, rfl⟩

/-- A filter LOCKED on step 5 with its asks posted and a check's gate open, and one whose trial of step 6 is GATING. -/
theorem meets_GrantsAndLampsBounded_filter :
    let s := fun (f : Filter) (extra : Nat) => ({ State.reset with
      pending := [.flowPulse], water := { State.reset.water with filter := f },
      power := { State.reset.power with
        loads := tset State.reset.power.loads filterLoad ⟨180, extra, 180, extra, false⟩ } } : State)
    let lock := { Filter.start with state := .locked, step := 5, lockedStep := some 5, gate := some ⟨0, 10000⟩ }
    let trial := { Filter.start with
      state := .searching, step := 6, search := some ⟨5, 6, .gating, some 5, some 100, 0, 1, none⟩,
      gate := some ⟨0, 10000⟩ }
    (s lock 90).filterPosted ∧ (s lock 90).water.filter.gateInPhase ∧ (∃ t, step (s lock 90) = .next t) ∧
      (s trial 140).filterPosted ∧ (s trial 140).water.filter.gateInPhase ∧ ∃ t, step (s trial 140) = .next t :=
  ⟨⟨by decide, by decide⟩, fun _ => .inl rfl, ⟨_, rfl⟩, by rintro _ ⟨⟩; exact ⟨by decide, by decide⟩,
    fun _ => .inr ⟨rfl, rfl⟩, _, rfl⟩

theorem meets_ModeChangesOnlyByModeCommands : (∀ b, Instr.flowPulse ≠ .modeSetup b) ∧ (∀ b, Instr.flowPulse ≠ .modeRun b) ∧
    (∀ v, Instr.flowPulse ≠ .powerOn v) ∧ (∀ b v, Instr.flowPulse ≠ .restart b v) ∧
    ∃ t, exec .flowPulse running = .next t := ⟨nofun, nofun, nofun, nofun, _, rfl⟩

/-- SHOW_PAUSE in IDLE is refused INCONSISTENT. -/
theorem meets_RefusedRequestChangesNothing : (formFor (.showPause (.fields ()))).isSome = true ∧
    ∃ t, exec (.showPause (.fields ())) State.reset = .next t ∧
      t.link.reply = some ⟨none, .refused .inconsistent, []⟩ := ⟨rfl, _, rfl, rfl⟩

theorem meets_RequestChecksInOrder :
    (∃ f, formFor (.mapFill .wrongLength) = some f ∧ State.reset.serves f ∧ f.badLength = true) ∧
    (∃ f, formFor (.settingsStore (.fields ())) = some f ∧ f.badLength = false ∧ f.access = .config ∧
      running.serves f ∧ running.mode = .run) ∧
    (∃ f, formFor (.settingsStore (.fields ())) = some f ∧ f.badLength = false ∧ f.access = .config ∧
      writing.serves f ∧ writing.mode = .setup ∧ writing.store.writing.isSome = true) ∧
    (∃ f, formFor (.showStart (.fields ())) = some f ∧ f.badLength = false ∧ f.access = .runOnly ∧
      State.reset.serves f ∧ State.reset.mode = .setup) :=
  ⟨⟨_, rfl, trivial, rfl⟩, ⟨_, rfl, rfl, rfl, trivial, rfl⟩, ⟨_, rfl, rfl, rfl, trivial, rfl, rfl⟩,
    ⟨_, rfl, rfl, rfl, trivial, rfl⟩⟩

theorem meets_RequestInServiceFirst :
    (∃ f, formFor (.modeRun (.fields ())) = some f ∧ ¬ (waitingLink [⟨0x11, 7, []⟩] false).serves f) ∧
    ((0x0F < 0x10 ∨ 0x49 < 0x0F) ∧ (waitingLink [⟨0x0F, 7, [1]⟩] false).link.queue = ⟨0x0F, 7, [1]⟩ :: [] ∧
      (waitingLink [⟨0x0F, 7, [1]⟩] false).link.answered = false ∧ (0x0F : Byte).toNat = 0x0F) ∧
    ((waitingLink [⟨0x16, 7, [0]⟩, ⟨0x10, 8, []⟩] true).link.queue = ⟨0x16, 7, [0]⟩ :: [⟨0x10, 8, []⟩] ∧
      (waitingLink [⟨0x16, 7, [0]⟩, ⟨0x10, 8, []⟩] true).link.answered = true) ∧ State.reset.link.answered = false :=
  ⟨⟨_, rfl, fun h => absurd h.2.1 (by decide)⟩, ⟨.inl (by decide), rfl, rfl, rfl⟩, ⟨rfl, rfl⟩, rfl⟩

/-- A frame of the longest body. -/
theorem meets_HostFrameArrives : (List.replicate 200 (0 : Byte)).length ≤ 200 ∧ State.reset.link.rx.state = .hunting ∧
    ∃ bytes last, hostFrame 0x39 1 (List.replicate 200 0) = bytes ++ [last] :=
  ⟨List.length_replicate.le, rfl, _, _,
    (List.dropLast_append_getLast (by unfold hostFrame; exact List.cons_ne_nil _ _)).symm⟩

theorem meets_ReceiverTakesAndDropsBytes :
    (State.reset.link.rx.state = .hunting ∧ (0xC2 : Byte) ≠ 0xC3) ∧
    ((receiving ⟨.length, 0, [], false⟩).link.rx.state = .length ∧ (200 : Byte).toNat ≤ 200 ∧ 200 < (201 : Byte).toNat) ∧
    ((receiving ⟨.gathering, 0, [5, 0], false⟩).link.rx.state = .gathering ∧ [5, 0].length + 1 < 0 + 4) ∧
    (∃ a b c d : Byte, crcBytes (crc16 [0, 5, 7]) = [a, b] ∧
      (receiving ⟨.gathering, 0, [5, 7, a], false⟩).link.rx.taken ++ [b] = 5 :: 7 :: [] ++ crcBytes (crc16 [0, 5, 7]) ∧
      (receiving ⟨.gathering, 0, [5, 7, a], false⟩).link.rx.damaged = false ∧
      (receiving ⟨.gathering, 0, [5, 7, a], false⟩).link.queue.length < 4 ∧
      crcBytes (crc16 [0, 5, 7]) ≠ [c, d] ∧ ([5, 7, c] ++ [d]).length = 0 + 4) :=
  ⟨⟨rfl, by decide⟩, by decide, by decide, 0x43, 0x8E, 0, 0, by decide +kernel⟩

theorem meets_SettingsStoreWrites : State.reset.takes (.settingsStore (.fields ())) ∧ State.reset.store.newest = none ∧
    (∃ s : State, ∃ c, s.takes (.settingsStore (.fields ())) ∧ s.store.newest = some (.one, c) ∧ c.generation = 4294967295) ∧
    (∃ s : State, ∃ c, s.takes (.settingsStore (.fields ())) ∧ s.store.newest = some (.two, c)) ∧
    (∃ w x, writing.store.writing = some w ∧ x = w.began + 2000 ∧ writing.time.secs < x / 1000) ∧
    (∃ s : State, ∃ w x, s.store.writing = some w ∧ x = w.began + 2000 ∧ x / 1000 = s.time.secs) :=
  ⟨State.takes_config _ rfl rfl rfl rfl rfl rfl, rfl,
    ⟨{ State.reset with store := ⟨some ⟨4294967295, Settings.factory⟩, none, none⟩ }, _,
      State.takes_config _ rfl rfl rfl rfl rfl rfl, rfl, rfl⟩,
    ⟨{ State.reset with store := ⟨some ⟨1, Settings.factory⟩, some ⟨2, Settings.factory⟩, none⟩ }, _,
      State.takes_config _ rfl rfl rfl rfl rfl rfl, rfl⟩, ⟨_, _, rfl, rfl, by decide⟩,
    ⟨{ writing with time := ⟨2, 0⟩ }, _, _, rfl, rfl, rfl⟩⟩

/-- A write begun at second 50 runs on at 51 and has ended at 52, at its millisecond (R188; the SETUP session of 10.7). -/
theorem test_storeWrite_ends :
    let s := fun secs ms => { writing with time := ⟨secs, ms⟩, store := ⟨none, none, some ⟨1, .one, Settings.factory, 50250⟩⟩ }
    (s 51 999).writeEnds true = s 51 999 ∧ ((s 52 0).writeEnds true).time = ⟨52, 250⟩ ∧
      ((s 52 0).writeEnds true).store = ⟨some ⟨1, Settings.factory⟩, none, none⟩ := ⟨rfl, rfl, rfl⟩

theorem meets_StartLoadsTheStore : State.reset.store.newest = none ∧
    (∃ s : State, ∃ w c, s.store.newest = some (w, c)) ∧
    (waitingLink [⟨0x13, 9, []⟩, ⟨0x10, 1, []⟩] false).takes (.restart (.fields ()) 0) :=
  ⟨rfl, ⟨{ State.reset with store := ⟨none, some ⟨1, Settings.factory⟩, none⟩ }, _, _, rfl⟩,
    ⟨rfl, rfl, by decide⟩, rfl, trivial⟩

/-- Starts by what LEVEL shows: no demand at a full pond; at an empty one a demand with no cap period, and one with watts to
ask. -/
theorem meets_StartLoadsTheStore_water :
    let s := fun cap => { State.reset with store :=
      ⟨some ⟨1, { Settings.factory with water := { WaterCfg.factory with capMinutes := cap } }⟩, none, none⟩ }
    (∃ t, exec (.powerOn 3000000) (s 0) = .next t ∧ t.water.demand = false ∧ t.water.starved = false) ∧
    (∃ t, exec (.powerOn 0) (s 0) = .next t ∧ t.water.demand = true ∧ t.water.cfg.capMinutes = 0 ∧
      t.water.starved = true) ∧
    ∃ t, exec (.powerOn 0) (s 30) = .next t ∧ t.water.demand = true ∧ t.water.cfg.capMinutes ≠ 0 ∧
      t.water.cfg.topupWatts ≠ 0 :=
  ⟨⟨_, rfl, by decide +kernel⟩, ⟨_, rfl, by decide +kernel⟩, _, rfl, by decide +kernel⟩

/-- The eight functions that every garden uses, each on a channel of its type. -/
def wired : State :=
  let on := fun (v : Vector Channel 24) (p : ChannelId × ChannelType × Fn) =>
    tset v p.1 (Channel.start ⟨p.2.1, some p.2.2, 0, 10000⟩)
  let table : List (ChannelId × ChannelType × Fn) :=
    [(0, .proportional, .filterPump), (1, .relay, .backwashValve), (2, .relay, .topupValve), (3, .proportional, .fountainPump),
      (4, .proportional, .nozzle .n1), (5, .proportional, .nozzle .n2), (6, .proportional, .nozzle .n3),
      (7, .proportional, .nozzle .n4)]
  { State.reset with power := { State.reset.power with channels := table.foldl on State.reset.power.channels } }

theorem meets_ModeRunEntersRun : running.takes (.modeRun (.fields ())) ∧ running.mode = .run ∧
    (writing.takes (.modeRun (.fields ())) ∧ writing.mode = .setup ∧ writing.store.writing.isSome = true) ∧
    (wired.takes (.modeRun (.fields ())) ∧ wired.mode = .setup ∧ wired.store.writing = none ∧
      wired.position.capture = none ∧ wired.runItem = none) ∧
    (State.reset.takes (.modeRun (.fields ())) ∧ State.reset.mode = .setup ∧ State.reset.store.writing = none ∧
      State.reset.position.capture = none ∧ State.reset.runItem = some (.unbound .filterPump)) :=
  ⟨State.takes_both _ rfl rfl rfl rfl, rfl, ⟨State.takes_both _ rfl rfl rfl rfl, rfl, rfl⟩,
    ⟨State.takes_both _ rfl rfl rfl rfl, rfl, rfl, rfl, by decide +kernel⟩,
    ⟨State.takes_both _ rfl rfl rfl rfl, rfl, rfl, rfl, by decide +kernel⟩⟩

/-- A check that passes, with the clock set. -/
theorem meets_ModeRunEntersRun_clock :
    let s := { wired with clock := some ⟨0, 43200⟩ }
    s.takes (.modeRun (.fields ())) ∧ s.mode = .setup ∧ s.store.writing = none ∧ s.position.capture = none ∧
      s.runItem = none ∧ s.clock.isSome = true ∧ s.mayMow = false :=
  ⟨State.takes_both _ rfl rfl rfl rfl, rfl, rfl, rfl, by decide +kernel, rfl, by decide +kernel⟩

theorem meets_ModeSetupRecallsAndResets : State.reset.takes (.modeSetup (.fields ())) ∧ State.reset.mode = .setup ∧
    (bound .run (ctx .mowing)).takes (.modeSetup (.fields ())) ∧ (bound .run (ctx .mowing)).mode = .run ∧
    ((bound .run (ctx .mowing)).mower .s0).state.working = true ∧
    ((bound .run (ctx .mowing)).mower .s1).state.working = false :=
  ⟨State.takes_both _ rfl rfl rfl rfl, rfl, State.takes_both _ rfl rfl rfl rfl, rfl, rfl, rfl⟩

/-- A clock at the last second of a day. -/
def clocked (m : Mode) : State := { State.reset with mode := m, clock := some ⟨65535, 86399⟩ }

theorem meets_TimeSetSetsTheClock : State.reset.takes (.timeSet (.fields ⟨0, 86400⟩)) ∧ State.reset.clock = none ∧
    (clocked .run).takes (.timeSet (.fields ⟨65535, 0⟩)) ∧
    ∃ c, (clocked .run).clock = some c ∧ c.day = 65535 ∧ c.day ≠ 65534 :=
  ⟨State.takes_both _ rfl rfl rfl rfl, rfl, State.takes_both _ rfl rfl rfl rfl, _, rfl, rfl, by decide⟩

/-- A first TIME_SET outside quiet hours and into them, and times of the same, a later and an earlier day. -/
theorem meets_TimeSetSetsTheClock_effects :
    (∀ q, (bound .run (ctx .mowing)).takes (.timeSet (.fields q)) ∧ State.reset.takes (.timeSet (.fields q)) ∧
      (clocked .run).takes (.timeSet (.fields q))) ∧
    (let s := bound .run (ctx .mowing); s.clock = none ∧ s.mode = .run ∧ s.planner.quiet = false ∧
      (s.mower .s0).state.working = true ∧ quietAt s.planner.cfg 0 = true ∧ quietAt s.planner.cfg 43200 = false) ∧
    (State.reset.clock = none ∧ State.reset.mode = .setup ∧ State.reset.planner.quiet = false) ∧
    (∃ c, (clocked .run).clock = some c ∧ (clocked .run).planner.quiet = quietAt (clocked .run).planner.cfg 43200 ∧
      c.day = 65535 ∧ c.day ≠ 0 ∧ 0 ≤ dayDistance 0 c.day ∧ dayDistance 65534 c.day < 0 ∧ (clocked .run).mode = .run) :=
  ⟨fun _ => ⟨State.takes_both _ rfl rfl rfl rfl, State.takes_both _ rfl rfl rfl rfl, State.takes_both _ rfl rfl rfl rfl⟩,
    by decide, by decide, _, rfl, by decide⟩

theorem meets_ClockSecondPasses : State.reset.clock = none ∧ State.reset.water.topup = .opened ∧
    (∃ c, (clocked .run).clock = some c ∧ c.second = 86399) ∧
    ∃ s : State, ∃ c, s.clock = some c ∧ c.second < 86399 ∧ s.water.topup ≠ .opened :=
  ⟨rfl, rfl, ⟨_, rfl, rfl⟩,
    { State.reset with clock := some ⟨1, 86398⟩, water := { State.reset.water with topup := .closed } }, _, rfl,
    by decide, by decide⟩

/-- Seconds that enter the late window, begin and end quiet hours, do neither, and begin a day with the valve shut. -/
theorem meets_ClockSecondPasses_effects :
    let s := fun second quiet => { bound .run (ctx .mowing) with
      clock := some ⟨1, second⟩, planner := { State.reset.planner with quiet := quiet },
      water := { State.reset.water with topup := .closed } }
    let n := fun second => quietAt (s 0 false).planner.cfg second
    (lateAt (s 0 false).lights.lateTime 82800 ≠ lateAt (s 0 false).lights.lateTime 82799) ∧
      ((s 75599 false).planner.quiet = false ∧ n 75600 = true ∧ ((s 75599 false).mower .s0).state.working = true) ∧
      (n 28800 = false ∧ (s 28799 true).planner.quiet = true ∧ 28799 < 86399) ∧
      (n 43200 = (s 43199 false).planner.quiet ∧ 43199 < 86399) ∧
      (n 0 = (s 86399 true).planner.quiet ∧ (s 86399 true).water.topup ≠ .opened) := by decide

theorem meets_ReportsFetchedAndMasked : State.reset.takes (.reportsFetch (.fields ())) ∧
    State.reset.takes (.reportMaskSet (.fields 0xFFFFFFFF)) ∧
    (∃ (q : Reports) (r : ReportBody), q.mask.getLsbD r.code = false) ∧
    (∃ (q : Reports) (r : ReportBody), q.mask.getLsbD r.code = true ∧ q.queue.length < 32) ∧
    (∃ (q : Reports) (r : ReportBody), q.mask.getLsbD r.code = true ∧ 32 ≤ q.queue.length) :=
  ⟨State.takes_both _ rfl rfl rfl rfl, State.takes_both _ rfl rfl rfl rfl, ⟨⟨[], 0, 2⟩, .settingsLost, by decide⟩,
    ⟨⟨List.replicate 31 ⟨.running 0, .showEnded⟩, 0, allReports⟩, .showEnded, by decide⟩,
    ⟨⟨List.replicate 32 ⟨.running 0, .showEnded⟩, 0, allReports⟩, .showEnded, by decide⟩⟩

theorem meets_QueriesOnlyTell : State.reset.takes (.statusGet (.fields 0)) ∧ (pageOf State.reset.statusFields 0).isSome = true ∧
    State.reset.takes (.zoneGet (.fields ⟨48, 0⟩)) ∧ (pageOf (State.reset.zoneFields 47) 0).isSome = true ∧
    State.reset.takes (.cellsGet (.fields ⟨63, 95, 95, 0⟩)) ∧
    (pageOf (State.reset.ground.spanFields ⟨63, 95, 95, 0⟩) 0).isSome = true ∧
    (∃ s : State, ∃ x, s.takes (.sourceGet (.fields 40)) ∧ tget s.field.sources 39 = some x) ∧
    State.reset.takes (.calibrationGet (.fields ())) ∧
    State.reset.takes (.mowerGet (.fields ⟨2, 0⟩)) ∧ (pageOf (State.reset.mowerFields .s2) 0).isSome = true ∧
    State.reset.takes (.waterGet (.fields 0)) ∧ (pageOf State.reset.waterFields 0).isSome = true ∧
    State.reset.takes (.showGet (.fields 0)) ∧ (pageOf State.reset.showFields 0).isSome = true ∧
    State.reset.takes (.lightGet (.fields ⟨12, 0⟩)) ∧ (pageOf (State.reset.lightFields 11) 0).isSome = true ∧
    State.reset.takes (.powerGet (.fields 0)) ∧ (pageOf State.reset.powerFields 0).isSome = true ∧
    State.reset.takes (.channelGet (.fields 24)) := by
  refine ⟨State.takes_both _ rfl rfl rfl rfl, by decide +kernel, State.takes_both _ rfl rfl rfl rfl, by decide +kernel,
    State.takes_both _ rfl rfl rfl rfl, by decide +kernel,
    ⟨{ State.reset with field := { State.reset.field with
        sources := tset State.reset.field.sources 39 (some ⟨⟨.dusk, .both⟩, none, Window.empty⟩) } }, _,
      State.takes_both _ rfl rfl rfl rfl, rfl⟩,
    State.takes_both _ rfl rfl rfl rfl, State.takes_both _ rfl rfl rfl rfl, by decide +kernel,
    State.takes_both _ rfl rfl rfl rfl, by decide +kernel, State.takes_both _ rfl rfl rfl rfl, by decide +kernel,
    State.takes_both _ rfl rfl rfl rfl, by decide +kernel, State.takes_both _ rfl rfl rfl rfl, by decide +kernel,
    State.takes_both _ rfl rfl rfl rfl⟩

theorem meets_UnitRestartsOfFieldShowLights : State.reset.takes (.unitRestartField (.fields .thisUnit)) ∧
    State.reset.position.capture = none ∧ State.reset.takes (.unitRestartShow (.fields .thisUnit)) ∧
    State.reset.takes (.unitRestartLights (.fields .thisUnit)) :=
  ⟨State.takes_both _ rfl rfl rfl rfl, rfl, State.takes_both _ rfl rfl rfl rfl, State.takes_both _ rfl rfl rfl rfl⟩

theorem meets_UnitRestartsOfFleetPlannerWater : (bound .run (ctx .mowing)).takes (.unitRestartFleet (.fields .thisUnit)) ∧
    ((bound .run (ctx .mowing)).slot .s0).cfg.source.isSome = true ∧
    ((bound .run (ctx .mowing)).slot .s2).cfg.source = none ∧
    (bound .run (ctx .mowing)).takes (.unitRestartPlanner (.fields .thisUnit)) ∧
    ((bound .run (ctx .mowing)).mower .s0).state.working = true ∧ (bound .run (ctx .mowing)).mayMow = false ∧
    State.reset.takes (.unitRestartWater (.fields .thisUnit) 0) ∧ State.reset.power.fnTripped .filterPump = false ∧
    readPin 1500 0 < State.reset.water.cfg.levels.filterLow ∧
    ∃ s : State, s.takes (.unitRestartWater (.fields .thisUnit) 3000000) ∧ s.power.fnTripped .topupValve = true :=
  ⟨State.takes_both _ rfl rfl rfl rfl, rfl, rfl, State.takes_both _ rfl rfl rfl rfl, rfl, by decide +kernel,
    State.takes_both _ rfl rfl rfl rfl, by decide +kernel, by decide,
    withChannel { Channel.start ⟨.relay, some .topupValve, 0, 10000⟩ with state := .tripped },
    State.takes_both _ rfl rfl rfl rfl, by decide +kernel⟩

/-! ### The map -/

/-- Zone 1 as a lawn with given wet marks, its cell at the corner claimed or not. -/
def lawn (marks : ByNozzle MarkState) (claim : Option Slot) : State :=
  { State.reset with ground := ⟨[(0, ⟨some 0, claim, false, none⟩)],
      tset State.reset.ground.zones 0 { Zone.fresh { ZoneCfg.factory with kind := .lawn } with splashMarks := marks }, []⟩ }

/-- Slot 0 in a state with a lane in zone 1 over cells of row 0; a slot holds the claim of the corner cell, and the track
record and a yield record of slot 0 stand as given. -/
def row (x : MowerCtx) (holder : Slot) (cells : List CellAddr) (seen : Option CellAddr) (y : Option Yield) : State :=
  { bound .run x with
    ground := ⟨[(0, ⟨some 0, some holder, false, none⟩), (1, ⟨some 0, none, false, none⟩), (2, ⟨some 0, none, false, none⟩)],
      tset State.reset.ground.zones 0
        { Zone.fresh { ZoneCfg.factory with kind := .lawn } with roundStart := some 0, assigned := some .s0 }, []⟩,
    position := { State.reset.position with tracks := ⟨{ Track.empty with cell := seen }, Track.empty, Track.empty⟩ },
    planner := { State.reset.planner with
      cfg := { State.reset.planner.cfg with enabled := true },
      lanes := ⟨some ⟨0, 0, .increasing, cells, 0, 0, 25, 25, 125, 25, none⟩, none, none⟩, yields := ⟨y, none, none⟩ } }

theorem meets_MapFillFillsTheRectangle : State.reset.takes (.mapFill (.fields ⟨1, 0, 0, 0, 1⟩)) ∧
    State.reset.takes (.mapFill (.fields ⟨0, 96, 0, 0, 1⟩)) ∧ State.reset.takes (.mapFill (.fields ⟨0, 95, 0, 63, 48⟩)) ∧
    State.reset.ground.grid.wf = true ∧ (∀ a, (State.reset.ground.cell a).claim = none) :=
  ⟨State.takes_config _ rfl rfl rfl rfl rfl rfl, State.takes_config _ rfl rfl rfl rfl rfl rfl,
    State.takes_config _ rfl rfl rfl rfl rfl rfl, rfl, fun _ => rfl⟩

theorem meets_ZoneSetWritesTheRecord :
    (∀ q : ZoneSet, State.reset.takes (.zoneSet (.fields q))) ∧
    (ZoneSet.circuit ⟨48, .named .pond, 15, 19, some 12, some 4, true, 1001⟩ = (some (11 : Circuit)).map (·.val + 1) ∧
      ZoneSet.splash ⟨48, .named .pond, 15, 19, some 12, some 4, true, 1001⟩ = (some Nozzle.n4).map nozzleNo ∧
      (48 : Nat) = (47 : ZoneId).val + 1 ∧ ∀ y : ZoneId, y ≠ 47 → (State.reset.ground.zone y).cfg.discharge = false) ∧
    ZoneKind.pond ≠ (State.reset.ground.zone 47).cfg.kind ∧ ZoneKind.keepout = (State.reset.ground.zone 47).cfg.kind ∧
    (ZoneSet.kind ⟨48, .unknown 255, 7, 40, some 13, some 5, false, 0⟩ = .unknown 255 ∧
      ZoneSet.circuit ⟨48, .named .lawn, 7, 40, some 13, none, false, 0⟩ = some 13) ∧
    State.reset.lights.dusk ≠ .night ∧ State.reset.ground.grid.wf = true ∧
    (∃ s : State, ∃ q : ZoneSet, s.takes (.zoneSet (.fields q)) ∧ q.discharge = true ∧
      (s.ground.zone 0).cfg.discharge = true) :=
  ⟨fun _ => State.takes_config _ rfl rfl rfl rfl rfl rfl, by decide +kernel, by decide +kernel, by decide +kernel, by decide,
    by decide, rfl, { State.reset with ground := { State.reset.ground with
      zones := tset State.reset.ground.zones 0 (Zone.fresh { ZoneCfg.factory with discharge := true }) } },
    ⟨2, .named .lawn, 7, 40, none, none, true, 0⟩, State.takes_config _ rfl rfl rfl rfl rfl rfl, rfl, rfl⟩

theorem meets_ZonesLeaveAndJoinTheMowingView : State.reset.takes (.zoneWithdraw (.fields 48)) ∧
    (State.reset.ground.zone 47).cfg.withdrawn = false ∧ State.reset.takes (.zoneRestore (.fields 1)) ∧
    State.reset.takes (.zoneWithdraw (.fields 49)) ∧ State.reset.takes (.zoneRestore (.fields 0)) ∧
    (∃ s : State, s.takes (.zoneRestore (.fields 1)) ∧ s.takes (.zoneWithdraw (.fields 1)) ∧
      (s.ground.zone 0).cfg.withdrawn = true) :=
  ⟨State.takes_both _ rfl rfl rfl rfl, by decide +kernel, State.takes_both _ rfl rfl rfl rfl,
    State.takes_both _ rfl rfl rfl rfl, State.takes_both _ rfl rfl rfl rfl,
    { State.reset with ground := State.reset.ground.setWithdrawn 0 true }, State.takes_both _ rfl rfl rfl rfl,
    State.takes_both _ rfl rfl rfl rfl, by decide +kernel⟩

theorem meets_GroundExpiries :
    (let m := fun n => { State.reset.ground with
        blockList := ((List.finRange 64).take n).map (fun i => BlockEntry.mk ⟨0, i⟩ (i.val * 1000)) };
      (m 63).blockList.Pairwise (fun f h => f.expiry ≤ h.expiry) ∧ (m 63).grid.wf = true ∧
      ⟨0, 62⟩ ∈ (m 63).blockList.map BlockEntry.cell ∧ ⟨0, 63⟩ ∉ (m 63).blockList.map BlockEntry.cell ∧
      (m 63).blockList.length < 64 ∧ ⟨1, 0⟩ ∉ (m 64).blockList.map BlockEntry.cell ∧ 64 ≤ (m 64).blockList.length ∧
      ∃ l, (m 64).blockList = ⟨⟨0, 0⟩, 0⟩ :: l) ∧
    (let s := fun n => later n { State.reset with ground := { State.reset.ground with
        grid := [(6143, ⟨none, none, true, none⟩)], blockList := [⟨⟨95, 63⟩, 1999⟩] } };
      (s 1).ground.blockList = ⟨⟨95, 63⟩, 1999⟩ :: [] ∧ (s 1).ground.grid.wf = true ∧ 1999 / 1000 ≤ (s 1).time.secs ∧
      ∀ e ∈ (s 0).ground.blockList.head?, (s 0).time.secs < e.expiry / 1000) ∧
    (let s := fun n => later n (lawn ⟨.drying 5999, .held, .absent, .absent⟩ none);
      ((s 5).ground.zone 0).mark (.nozzle .n1) = .drying 5999 ∧ 5999 / 1000 ≤ (s 5).time.secs ∧
      (s 4).time.secs < 5999 / 1000 ∧ ((s 5).ground.zone 0).mark (.nozzle .n2) = .held) := by
  refine ⟨⟨by decide +kernel, by decide +kernel, by decide +kernel, by decide +kernel, by decide +kernel, by decide +kernel,
    by decide +kernel, _, rfl⟩, by decide +kernel, by decide +kernel⟩

theorem meets_ClaimsDecidedAndReleased :
    (let m := (lawn ⟨.absent, .absent, .absent, .absent⟩ none).ground;
      (m.cell ⟨0, 0⟩).claim = none ∧ m.mowable ⟨0, 0⟩ = true ∧ m.grid.wf = true) ∧
    (let m := (lawn ⟨.held, .absent, .absent, .absent⟩ none).ground;
      (m.cell ⟨0, 0⟩).zone = some 0 ∧ (m.cell ⟨0, 0⟩).claim = none ∧ (m.zone 0).wet = true ∧
        m.claimAnswer .s1 ⟨0, 0⟩ ≠ .granted) ∧
    (let m := (lawn ⟨.absent, .absent, .absent, .absent⟩ (some .s1)).ground;
      (m.cell ⟨0, 0⟩).claim = some .s1) ∧
    (let m := State.reset.ground;
      (m.cell ⟨95, 63⟩).claim = none ∧ (m.cell ⟨95, 63⟩).zone = none ∧ m.mowable ⟨95, 63⟩ = false) := by decide +kernel

theorem meets_MapStaysSound : ∃ s t : State, s.pending = [.duskSilent] ∧ s.mapSound ∧ step s = .next t :=
  ⟨{ State.reset with pending := [.duskSilent] }, _, rfl,
    ⟨rfl, fun p h => absurd h (List.not_mem_nil), ⟨by decide, .nil, .nil, fun _ => rfl⟩,
      fun _ h => (Option.some_ne_none _ h.symm).elim, fun _ h => (Option.some_ne_none _ h.symm).elim,
      fun _ h => (Option.some_ne_none _ h.symm).elim⟩, rfl⟩

/-! ### The field lines -/

theorem meets_SourcesAndCountersKept :
    State.reset.takes (.sourceSet (.fields ⟨40, .named .wind, .named .both⟩)) ∧ tget State.reset.field.sources 39 = none ∧
    State.reset.takes (.sourceRemove (.fields 1)) ∧ tget State.reset.field.sources 0 = none ∧
    State.reset.takes (.countersCapture (.fields ())) ∧ State.reset.field.hasKind .wind = false ∧
    (let s := heard 39 ⟨⟨.wind, .both⟩, none, Window.empty⟩ FieldRx.idle;
      s.takes (.sourceRemove (.fields 40)) ∧ (tget s.field.sources 39).isSome = true ∧ s.field.hasKind .wind = true ∧
        s.takes (.sourceSet (.fields ⟨40, .named .rain, .named .both⟩))) :=
  ⟨State.takes_config _ rfl rfl rfl rfl rfl rfl, by decide +kernel, State.takes_config _ rfl rfl rfl rfl rfl rfl,
    by decide +kernel, State.takes_both _ rfl rfl rfl rfl, by decide +kernel,
    State.takes_config _ rfl rfl rfl rfl rfl rfl, by decide +kernel, by decide +kernel,
    State.takes_config _ rfl rfl rfl rfl rfl rfl⟩

/-- Unknown codes behind a number in range and one out of it. -/
theorem meets_SourcesAndCountersKept_codes : (∀ q, State.reset.takes (.sourceSet (.fields q))) ∧
    (SourceSet.mk 40 (.unknown 0) (.named .a)).source = (39 : SourceId).val + 1 ∧
    (SourceSet.mk 40 (.named .wind) (.unknown 4)).binding = .unknown 4 ∧
    (SourceSet.mk 0 (.named .wind) (.named .a)).source = 0 ∧ 40 < (SourceSet.mk 41 (.unknown 0) (.unknown 4)).source :=
  ⟨fun _ => State.takes_config _ rfl rfl rfl rfl rfl rfl, by decide, rfl, rfl, by decide⟩

/-- A receiver at the end of a frame with these bytes before the CRC (R19). -/
def framed (bytes : List Byte) : FieldRx := ⟨true, bytes.length + 2, bytes ++ crcBytes (crc16 bytes), false⟩

theorem meets_BytesGatheredAndBadFramesCounted :
    (State.reset.field.rx.get .a).gathering = false ∧ (framed [1, 0, 0, 4, 0]).gathering = true ∧
    (FieldRx.mk true 6 [] false).count < 7 ∧ 31 < (FieldRx.mk true 32 [] false).count ∧
    ((FieldRx.mk true 7 [0] false).count = 7 ∧ parseFieldFrame [0] = none) ∧
    ((framed [1, 0, 0, 4, 0]).count = 7 ∧ parseFieldFrame (framed [1, 0, 0, 4, 0]).kept = some ⟨1, 0, 4, false, []⟩) ∧
    (let s := heard 0 (fresh .wind) FieldRx.idle; tget s.field.sources 1 = none ∧
      ∃ e, tget s.field.sources 0 = some e ∧ senderOf 4 ≠ some e.cfg.kind) ∧
    (∃ e : Source, senderOf 4 = some e.cfg.kind ∧ bindingTakes e.cfg.binding .a = false) ∧
    (∃ e : Source, senderOf 4 = some e.cfg.kind ∧ bindingTakes e.cfg.binding .a = true ∧
      (e.window.take 0 false).1 ≠ .good) := by
  refine ⟨by decide, by decide, by decide, by decide, by decide, by decide +kernel, ⟨by decide +kernel, _, rfl, by decide⟩,
    ⟨⟨⟨.motion, .b⟩, none, Window.empty⟩, by decide⟩, ⟨⟨⟨.motion, .a⟩, none, ⟨some 0, [0], none⟩⟩, by decide⟩⟩

/-- Payloads of each kind, at the ends of their fields and with bytes beyond the kind's size; a sign of two bytes. -/
theorem meets_BytesGatheredAndBadFramesCounted_payloads :
    (∃ signed : Byte → Byte → Int, ∀ hi lo, signed hi lo =
      if hi.toNat < 128 then ((hi.toNat * 256 + lo.toNat : Nat) : Int)
      else ((hi.toNat * 256 + lo.toNat : Nat) : Int) - 65536) ∧
    (parseFieldFrame (framed [1, 0, 0, 0x84, 22, 0, 0, 0, 0, 0, 0, 0, 0, 0, 0, 0, 0, 0, 0, 0, 0, 0, 0, 0, 0, 0, 0]).kept).isSome =
      true ∧
    parseFieldFrame (framed [1, 0, 0, 1, 6, 0, 0, 0, 0, 0, 0]).kept = none ∧
    (FieldFrame.mk 1 0 1 false [0x80, 0, 0x7F, 0xFF, 101, 255, 0x0C, 9]).read =
      some (.position (-32768) 32767 100 255 true true) ∧
    (FieldFrame.mk 1 0 2 false [0xFF, 0xFF, 0, 1]).read = some (.obstacle (-1) 1) ∧
    (FieldFrame.mk 1 0 3 false [0]).read = some (.mowerFault 255) ∧ (FieldFrame.mk 1 0 4 false []).read = some .motion ∧
    (FieldFrame.mk 1 0 5 false [2, 0x59]).read = some (.wind 600) ∧
    (FieldFrame.mk 1 0 6 false [2]).read = some (.rain true) ∧
    (FieldFrame.mk 1 0 7 false [0xFF, 0xFF]).read = some (.dusk 65535) :=
  ⟨⟨_, fun _ _ => rfl⟩, by decide +kernel⟩

/-- A frame of source 1 that the part hears, whatever its kind. -/
theorem hears (bytes : List Byte) (src : Source) (fr : FieldFrame) (w : Window)
    (h : parseFieldFrame (framed bytes).kept = some fr)
    (n : 7 ≤ bytes.length + 2 ∧ bytes.length + 2 ≤ 31) (hs : fr.source = 1) (k : senderOf fr.kind = some src.cfg.kind)
    (b : src.cfg.binding = .both) (hw : src.window.take fr.sequence fr.fresh = (.good, w)) :
    (heard 0 src (framed bytes)).field.Hears .a 0 src fr w :=
  ⟨rfl, n, rfl, h, by rw [hs]; rfl, tget_tset_same _ _ _, k, by rw [b]; rfl, hw⟩

/-- Circuit 12 mapped to source 1, by night. -/
def mapped : State :=
  { heard 0 (fresh .motion) (framed [1, 0, 0, 4, 0]) with lights :=
      { State.reset.lights with dusk := .night, motionMap := tset State.reset.lights.motionMap 7 ⟨some 0, [11]⟩ } }

/-- WET with a dry wait, and a frame of a rain sensor that has dried. -/
def raining (dryWait : Nat) : State :=
  { heard 0 (fresh .rain) (framed [1, 0, 0, 6, 1, 0]) with planner :=
      { State.reset.planner with rain := .wet, cfg := { State.reset.planner.cfg with dryWait := dryWait } } }

theorem meets_SensorFramesReachTheirBlocks :
    (∃ w, (heard 0 (fresh .wind) (framed [1, 0, 0, 5, 2, 2, 0x59])).field.Hears .a 0 (fresh .wind)
      ⟨1, 0, 5, false, [2, 0x59]⟩ w) ∧ (FieldFrame.mk 1 0 5 false [2, 0x59]).read = some (.wind 600) ∧
    (∃ w, (heard 0 (fresh .dusk) (framed [1, 0, 0, 7, 2, 255, 255])).field.Hears .a 0 (fresh .dusk)
      ⟨1, 0, 7, false, [255, 255]⟩ w) ∧ (FieldFrame.mk 1 0 7 false [255, 255]).read = some (.dusk 65535) ∧
    (∃ w, (heard 0 (fresh .rain) (framed [1, 0, 0, 6, 1, 1])).field.Hears .a 0 (fresh .rain) ⟨1, 0, 6, false, [1]⟩ w) ∧
    (FieldFrame.mk 1 0 6 false [1]).read = some (.rain true) ∧
    (heard 0 (fresh .rain) (framed [1, 0, 0, 6, 1, 1])).planner.rain = .dry ∧
    (∀ dry, (∃ w, (raining dry).field.Hears .a 0 (fresh .rain) ⟨1, 0, 6, false, [0]⟩ w) ∧ (raining dry).planner.rain = .wet ∧
      (raining dry).planner.cfg.dryWait = dry) ∧ (FieldFrame.mk 1 0 6 false [0]).read = some (.rain false) ∧
    (∃ w, mapped.field.Hears .a 0 (fresh .motion) ⟨1, 0, 4, false, []⟩ w) ∧
    (FieldFrame.mk 1 0 4 false []).read = some .motion ∧ State.reset.lights.dusk = .day ∧
    (mapped.lights.motionMap.toList.find? (fun e => e.source = some 0)).isSome = true ∧ mapped.lights.dusk ≠ .day :=
  ⟨⟨_, hears _ _ _ _ (by decide +kernel) (by decide) rfl rfl rfl rfl⟩, by decide +kernel,
    ⟨_, hears _ _ _ _ (by decide +kernel) (by decide) rfl rfl rfl rfl⟩, by decide,
    ⟨_, hears _ _ _ _ (by decide +kernel) (by decide) rfl rfl rfl rfl⟩, by decide, rfl,
    fun _ => ⟨⟨_, hears [1, 0, 0, 6, 1, 0] _ _ _ (by decide +kernel) (by decide) rfl rfl rfl rfl⟩, rfl, rfl⟩, by decide,
    ⟨_, hears [1, 0, 0, 4, 0] _ _ _ (by decide +kernel) (by decide) rfl rfl rfl rfl⟩, by decide, rfl, by decide +kernel,
    by decide⟩

/-- A DUSK frame in every dusk state, and frames at each threshold of R150 and below it. -/
theorem meets_SensorFramesReachTheirBlocks_dusk :
    (∀ d : DuskState, let s := { heard 0 (fresh .dusk) (framed [1, 0, 0, 7, 2, 0, 60]) with
        lights := { State.reset.lights with dusk := d } };
      (∃ w, s.field.Hears .a 0 (fresh .dusk) ⟨1, 0, 7, false, [0, 60]⟩ w) ∧ s.lights.dusk = d) ∧
    [([0, 39], 39), ([0, 40], 40), ([0, 59], 59), ([0, 60], 60), ([1, 143], 399), ([1, 144], 400), ([2, 87], 599),
      ([2, 88], 600)].all (fun p => (FieldFrame.mk 1 0 7 false p.1).read = some (.dusk p.2)) = true :=
  ⟨fun _ => ⟨⟨_, hears [1, 0, 0, 7, 2, 0, 60] _ _ _ (by decide +kernel) (by decide) rfl rfl rfl rfl⟩, rfl⟩, by decide⟩

/-- Slot 0 bound to source 1, which ends a POSITION frame; its track record at a sequence. -/
def tracked (q : Option Nat) : State :=
  { heard 0 (fresh .mower) (framed [1, 0, 0, 1, 7, 0x7F, 0xFF, 0x80, 0, 101, 0, 8]) with
    fleet := { State.reset.fleet with s0 := ⟨⟨some 0, 120, 6, 80, 25⟩, ctx .lost, 0⟩ },
    position := { State.reset.position with tracks := ⟨{ Track.empty with sequence := q }, Track.empty, Track.empty⟩ } }

/-- Slot 0 bound to source 1 in a mode, with a context and a capture, and a frame of source 1 on line A. -/
def telling (bytes : List Byte) (m : Mode) (x : MowerCtx) (c : Option Capture) : State :=
  { bound m x with
    field := (heard 0 (fresh .mower) (framed bytes)).field, position := { State.reset.position with capture := c } }

/-- A POSITION frame at raw (0, 0) with sequence 0, and what it reads as (R20). -/
theorem telling_position (battery echo flags : Byte) (m : Mode) (x : MowerCtx) (c : Option Capture)
    (h : parseFieldFrame (framed [1, 0, 0, 1, 7, 0, 0, 0, 0, battery, echo, flags]).kept =
      some ⟨1, 0, 1, false, [0, 0, 0, 0, battery, echo, flags]⟩) :
    let s := telling [1, 0, 0, 1, 7, 0, 0, 0, 0, battery, echo, flags] m x c
    (∃ w, s.field.Hears .a 0 (fresh .mower) ⟨1, 0, 1, false, [0, 0, 0, 0, battery, echo, flags]⟩ w) ∧
      s.slotOf 0 = some .s0 ∧ s.mower .s0 = x ∧ s.mode = m ∧ s.position.capture = c :=
  ⟨⟨_, hears _ (fresh .mower) _ _ h ⟨(by decide : 7 ≤ 14), (by decide : 14 ≤ 31)⟩ rfl rfl rfl rfl⟩, rfl, rfl, rfl, rfl⟩

theorem meets_PositionFramesReachTheFleet (q : Option Nat) :
    (∃ fr w, (tracked q).field.Hears .a 0 (fresh .mower) fr w ∧ (tracked q).slotOf 0 = some .s0 ∧
      fr.read = some (.position 32767 (-32768) 100 0 false true) ∧ fr.sequence = 0 ∧ fr.fresh = false) ∧
    ((tracked none).track .s0).behind 0 false = false ∧ ((tracked none).mower .s0).state = .lost ∧
    ((tracked (some 31)).track .s0).behind 0 false = true ∧ (tracked (some 31)).position.capture = none :=
  ⟨⟨⟨1, 0, 1, false, [0x7F, 0xFF, 0x80, 0, 101, 0, 8]⟩, _,
      hears [1, 0, 0, 1, 7, 0x7F, 0xFF, 0x80, 0, 101, 0, 8] (fresh .mower) _ _ (by decide +kernel) (by decide) rfl rfl rfl rfl,
      rfl, by decide, rfl, rfl⟩, by decide, rfl, by decide, rfl⟩

/-- Frames LIFTED, docked, at the homebound level and above it; `telling_position` gives their other premises for
every context and capture. -/
theorem meets_PositionFramesReachTheFleet_forms :
    (let reads := fun b e f => parseFieldFrame (framed [1, 0, 0, 1, 7, 0, 0, 0, 0, b, e, f]).kept =
        some ⟨1, 0, 1, false, [0, 0, 0, 0, b, e, f]⟩;
      reads 80 1 4 ∧ reads 99 0 8 ∧ reads 25 0 0 ∧ reads 26 1 0) ∧
    (FieldFrame.mk 1 0 1 false [0, 0, 0, 0, 80, 1, 4]).read = some (.position 0 0 80 1 true false) ∧
    (FieldFrame.mk 1 0 1 false [0, 0, 0, 0, 99, 0, 8]).read = some (.position 0 0 99 0 false true) ∧
    (FieldFrame.mk 1 0 1 false [0, 0, 0, 0, 25, 0, 0]).read = some (.position 0 0 25 0 false false) ∧
    (FieldFrame.mk 1 0 1 false [0, 0, 0, 0, 26, 1, 0]).read = some (.position 0 0 26 1 false false) ∧
    (ctx .mowing).state.isFaulted = false ∧ (ctx (.faulted .noEcho)).state.isFaulted = true ∧
    ((ctx .mowing).state.supervised = true ∧ (ctx .mowing).state ≠ .outbound) ∧ (ctx .absent).outstanding = none ∧
    (Capture.mk .k3 .s0 6 0 0 30).count < 7 ∧ 7 ≤ (Capture.mk .k3 .s0 7 (-8) 8 30).count ∧
    (Capture.mk .k1 .s1 7 0 0 30).slot ≠ .s0 :=
  ⟨by decide +kernel, by decide, by decide, by decide, by decide, by decide⟩

/-- A mower that comes back, by mode, clock, switch, rain and quiet hours, and the orders of a mower on its way home. -/
theorem meets_PositionFramesReachTheFleet_recovery :
    (let s := fun (m : Mode) (clock : Option GardenClock) (rain : RainState) =>
        { telling [1, 0, 0, 1, 7, 0, 0, 0, 0, 26, 1, 0] m (ctx .lost) none with
          clock := clock,
          planner := { State.reset.planner with rain := rain, cfg := { State.reset.planner.cfg with enabled := true } } };
      ((s .run none .dry).slot .s0).cfg.homeboundLevel < 26 ∧ 25 ≤ ((s .run none .dry).slot .s0).cfg.homeboundLevel ∧
      ((s .run none .dry).mower .s0).state = .lost ∧ (s .setup none .dry).mode = .setup ∧ (s .run none .dry).clock = none ∧
      (s .run (some ⟨0, 43200⟩) .wet).planner.rain ≠ .dry ∧ (s .run (some ⟨0, 0⟩) .dry).inQuiet = true ∧
      (s .run (some ⟨0, 43200⟩) .dry).inQuiet = false) ∧
    (let s := fun (x : Outstanding) (t : Option Flight) =>
        let s := telling [1, 0, 0, 1, 7, 0, 0, 0, 0, 26, 1, 0] .run { ctx (.homebound .rain) with outstanding := some x } none
        { s with field := { s.field with tx := { Transmit.empty with inFlight := t } } };
      (∀ o ∈ ((s ⟨1, .returnHome, 0⟩ none).mower .s0).outstanding, o.number = 1) ∧
      (∃ o ∈ ((s ⟨2, .returnHome, 0⟩ (some ⟨⟨0, .returnHome, 2⟩, 0, 60⟩)).mower .s0).outstanding, o.number ≠ 1 ∧
        (s ⟨2, .returnHome, 0⟩ (some ⟨⟨0, .returnHome, 2⟩, 0, 60⟩)).field.tx.holds 0 o.number = true) ∧
      (∃ o ∈ ((s ⟨2, .returnHome, 2⟩ none).mower .s0).outstanding, o.number ≠ 1 ∧
        (s ⟨2, .returnHome, 2⟩ none).field.tx.holds 0 o.number = false ∧ o.resends < 3) ∧
      (∃ o ∈ ((s ⟨2, .returnHome, 3⟩ none).mower .s0).outstanding, o.number ≠ 1 ∧
        (s ⟨2, .returnHome, 3⟩ none).field.tx.holds 0 o.number = false ∧ 3 ≤ o.resends)) := by
  refine ⟨⟨by decide, by decide, rfl, rfl, rfl, by decide, by decide +kernel, by decide +kernel⟩, fun o h => ?_,
    ⟨_, rfl, by decide⟩, ⟨_, rfl, by decide⟩, ⟨_, rfl, by decide⟩⟩
  exact Option.some.inj h ▸ rfl

/-- Plain updates by the mower's state, with a lane and without one, arriving and not, and frames of an OUTBOUND mower. -/
theorem meets_PositionFramesReachTheFleet_updates :
    (let s := fun (x : MowerCtx) (cells : List CellAddr) => { row x .s1 cells none none with
        field := (heard 0 (fresh .mower) (framed [1, 0, 0, 1, 7, 0, 0, 0, 0, 26, 1, 0])).field };
      let h := fun (x : MowerCtx) (cells : List CellAddr) => Garden.heard { (s x cells).toGarden with
        field := (s x cells).field.afterGood .a 0 (fresh .mower) ⟨some 0, [0], none⟩ 0 } .s0 0 0 0 ⟨26, 1, false, false⟩;
      (∀ (x : MowerCtx) (cells : List CellAddr), (s x cells).field.Hears .a 0 (fresh .mower)
          ⟨1, 0, 1, false, [0, 0, 0, 0, 26, 1, 0]⟩ ⟨some 0, [0], none⟩ ∧
        (s x cells).slotOf 0 = some .s0 ∧ ((s x cells).slot .s0).cfg.homeboundLevel < 26 ∧ (s x cells).mower .s0 = x ∧
        ((s x cells).track .s0).behind 0 false = false) ∧
      (FieldFrame.mk 1 0 1 false [0, 0, 0, 0, 26, 1, 0]).read = some (.position 0 0 26 1 false false) ∧
      (∀ (x : MowerCtx) (cells : List CellAddr), ((s x cells).lane .s0).isSome = true) ∧
      (h { ctx .outbound with departed := true } [⟨0, 0⟩]).arriving .s0 = true ∧
      (h { ctx .outbound with departed := true } [⟨1, 0⟩]).arriving .s0 = false) ∧
    (telling [1, 0, 0, 1, 7, 0, 0, 0, 0, 26, 1, 0] .run (ctx .mowing) none).lane .s0 = none ∧
    ((ctx .mowing).state.working = true ∧ (ctx (.paused .yield)).state.working = true ∧
      (ctx (.paused .hold)).state.working = true ∧ (ctx (.faulted .lifted)).state.isFaulted = true) ∧
    ((ctx .outbound).state = .outbound ∧ (ctx .outbound).departed = false ∧
      ({ ctx .outbound with departed := true } : MowerCtx).departed = true) :=
  ⟨⟨fun _ _ => ⟨hears [1, 0, 0, 1, 7, 0, 0, 0, 0, 26, 1, 0] _ _ _ (by decide +kernel) (by decide) rfl rfl rfl rfl, rfl,
      (by decide : 25 < 26), rfl, rfl⟩, by decide, fun _ _ => rfl, by decide +kernel, by decide +kernel⟩, rfl, by decide,
    by decide⟩

/-- OBSTACLE frames on and off the map and a MOWER_FAULT frame. -/
theorem meets_PositionFramesReachTheFleet_others :
    (∃ w, (heard 0 (fresh .mower) (framed [1, 0, 0, 2, 4, 0, 0, 0, 0])).field.Hears .a 0 (fresh .mower)
      ⟨1, 0, 2, false, [0, 0, 0, 0]⟩ w) ∧
    (∃ w, (heard 0 (fresh .mower) (framed [1, 0, 0, 2, 4, 0x80, 0, 0, 0])).field.Hears .a 0 (fresh .mower)
      ⟨1, 0, 2, false, [0x80, 0, 0, 0]⟩ w) ∧
    (∃ w, (heard 0 (fresh .mower) (framed [1, 0, 0, 3, 1, 0])).field.Hears .a 0 (fresh .mower) ⟨1, 0, 3, false, [0]⟩ w) ∧
    (FieldFrame.mk 1 0 2 false [0, 0, 0, 0]).read = some (.obstacle 0 0) ∧ (State.reset.place 0 0).cell = some ⟨0, 0⟩ ∧
    (FieldFrame.mk 1 0 2 false [0x80, 0, 0, 0]).read = some (.obstacle (-32768) 0) ∧
    (State.reset.place (-32768) 0).cell = none ∧ (State.reset.ground.cell ⟨0, 0⟩).claim = none ∧
    State.reset.planner.lanes = ⟨none, none, none⟩ ∧
    (let s := row (ctx .mowing) .s1 [⟨1, 0⟩, ⟨0, 0⟩] none none; ∃ x, s.lane .s0 = some x ∧
      (s.ground.cell ⟨0, 0⟩).claim = some .s1 ∧ x.cells.idxOf? ⟨0, 0⟩ = some 1 ∧ x.current < 1 ∧
      x.current + x.window ≤ 1) ∧
    (let s := row (ctx .mowing) .s0 [⟨1, 0⟩, ⟨0, 0⟩] none none; ∃ x, s.lane .s0 = some x ∧
      (s.ground.cell ⟨0, 0⟩).claim = some .s0 ∧ (s.mower .s0).state = .mowing ∧ s.ground.grid.wf = true ∧
      x.cells[x.current]? = some ⟨1, 0⟩) ∧
    (let s := { lawn ⟨.absent, .absent, .absent, .absent⟩ (some .s0) with
        fleet := { State.reset.fleet with s0 := ⟨⟨some 0, 120, 6, 80, 25⟩, ctx (.paused .hold), 0⟩ } };
      (s.ground.cell ⟨0, 0⟩).claim = some .s0 ∧ (s.mower .s0).state = .paused .hold ∧ s.lane .s0 = none) ∧
    (FieldFrame.mk 1 0 3 false [0]).read = some (.mowerFault 255) ∧
    (let x := { ctx (.faulted .mowerFault) with faultCode := some 255 };
      x.state = .faulted .mowerFault ∧ x.faultCode = some 255 ∧ { x with faultCode := some 1 }.faultCode ≠ some 255) ∧
    (ctx (.faulted .lifted)).state.isFaulted = true ∧ (ctx .mowing).state.working = true := by
  refine ⟨⟨_, hears _ _ _ _ (by decide +kernel) (by decide) rfl rfl rfl rfl⟩,
    ⟨_, hears _ _ _ _ (by decide +kernel) (by decide) rfl rfl rfl rfl⟩,
    ⟨_, hears _ _ _ _ (by decide +kernel) (by decide) rfl rfl rfl rfl⟩, by decide, by decide +kernel, by decide,
      by decide +kernel, by decide +kernel, rfl,
    ⟨_, rfl, by decide +kernel⟩, ⟨_, rfl, by decide +kernel⟩, by decide +kernel, by decide, by decide, by decide, by decide⟩

/-- A transmitter with an order in flight. -/
def sending (k : OrderKind) (u n : List Order) : State :=
  { State.reset with field := { State.reset.field with tx := ⟨some ⟨⟨0, k, 1⟩, 65535, 60⟩, u, n, 65535⟩ } }

theorem meets_AirTimeEnds : (State.reset.field.tx.size < 16 ∧ State.reset.field.tx.inFlight = none ∧
      State.reset.field.tx.urgent = [] ∧ State.reset.field.tx.normal = []) ∧
    (sending .stop [] (List.replicate 14 ⟨0, .hold, 2⟩)).field.tx.size < 16 ∧
    16 ≤ (sending .stop [] (List.replicate 15 ⟨0, .hold, 2⟩)).field.tx.size ∧
    16 ≤ (sending .stop (List.replicate 15 ⟨0, .stop, 2⟩) []).field.tx.size ∧
    (Flight.mk ⟨0, .stop, 1⟩ 0 1000).ends / 1000 = 1 ∧ State.reset.time.secs < 1 ∧
    (∃ x o u, (sending .stop [⟨0, .stop, 2⟩] []).field.tx.inFlight = some x ∧ x.order.kind = .stop ∧
      x.ends / 1000 ≤ (sending .stop [⟨0, .stop, 2⟩] []).time.secs ∧
      (sending .stop [⟨0, .stop, 2⟩] []).field.tx.urgent = o :: u) ∧
    (∃ x o u, (sending .hold [] [⟨0, .resume, 2⟩]).field.tx.inFlight = some x ∧ x.order.kind ≠ .stop ∧
      (sending .hold [] [⟨0, .resume, 2⟩]).field.tx.urgent = [] ∧ (sending .hold [] [⟨0, .resume, 2⟩]).field.tx.normal = o :: u) ∧
    (sending .hold [] []).field.tx.urgent = [] ∧ (sending .hold [] []).field.tx.normal = [] :=
  ⟨by decide, by decide, by decide, by decide, by decide, by decide, ⟨_, _, _, rfl, rfl, by decide, rfl⟩, ⟨_, _, _,
    rfl, by decide, rfl, rfl⟩,
    rfl, rfl⟩

theorem meets_TransmitQueueBounded : ∃ s t : State, s.field.tx.size = 16 ∧ s.field.tx.bounded ∧ step s = .next t :=
  ⟨{ sending .stop [] (List.replicate 15 ⟨0, .hold, 2⟩) with pending := [.orderAirTimeEnd] }, _, rfl,
    ⟨by decide, nofun⟩, rfl⟩

theorem meets_FreshFramesResetTheWindow :
    (Window.mk (some 7) [7] (some 7)).fresh = some 7 ∧ 7 ∈ (Window.mk (some 7) [7] (some 7)).accepted ∧
    ¬ (Window.empty.fresh = some 7 ∧ 7 ∈ Window.empty.accepted) ∧ Window.empty.newest = none ∧
    (let w := Window.mk (some 10) [65515, 10] none; let d := fun s => (s + 65536 - 10 % 65536) % 65536;
      let b := fun s => (10 + 65536 - s % 65536) % 65536;
      w.newest = some 10 ∧ (1 ≤ d 11 ∧ d 11 ≤ 32767) ∧ (1 ≤ d 32777 ∧ d 32777 ≤ 32767) ∧
      (¬ (1 ≤ d 65515 ∧ d 65515 ≤ 32767) ∧ b 65515 ≤ 31 ∧ 65515 ∈ w.accepted) ∧
      (¬ (1 ≤ d 65516 ∧ d 65516 ≤ 32767) ∧ b 65516 ≤ 31 ∧ 65516 ∉ w.accepted) ∧
      (¬ (1 ≤ d 32778 ∧ d 32778 ≤ 32767) ∧ 31 < b 32778) ∧ (¬ (1 ≤ d 65514 ∧ d 65514 ≤ 32767) ∧ 31 < b 65514)) := by decide

/-! ### The Position Unit and the Fleet Unit -/

/-- Reset with slot 0 bound and a capture running. -/
def capturing : State :=
  { bound .setup MowerCtx.start with position := { State.reset.position with capture := some ⟨.k1, .s0, 9, 0, 0, 30⟩ } }

theorem meets_CaptureBeginsAndTimesOut :
    ((bound .setup MowerCtx.start).takes (.calibrateStake (.fields ⟨3, 4800, 0, 0⟩)) ∧
      ((bound .setup MowerCtx.start).slot .s0).cfg.source.isSome = true ∧
      (bound .setup MowerCtx.start).position.capture = none ∧ stakeNo .k3 = 3 ∧ slotNo .s0 = 0) ∧
    (capturing.takes (.calibrateStake (.fields ⟨1, 0, 0, 0⟩)) ∧ (capturing.slot .s0).cfg.source.isSome = true ∧
      capturing.position.capture.isSome = true) ∧
    State.reset.takes (.calibrateStake (.fields ⟨4, 0, 0, 3⟩)) ∧ (State.reset.slot .s2).cfg.source = none ∧
    (∃ c, (later 30 capturing).position.capture = some c ∧ c.deadline ≤ (later 30 capturing).time.secs) ∧
    (∀ c ∈ (later 29 capturing).position.capture, (later 29 capturing).time.secs < c.deadline) ∧
    State.reset.position.capture = none :=
  ⟨⟨State.takes_config _ rfl rfl rfl rfl rfl rfl, rfl, rfl, rfl, rfl⟩,
    ⟨State.takes_config _ rfl rfl rfl rfl rfl rfl, rfl, rfl⟩, State.takes_config _ rfl rfl rfl rfl rfl rfl, rfl,
    ⟨_, rfl, by decide⟩, by decide, rfl⟩

/-- Three SET stakes at raw (0, 0), (u, 0), (0, 1), the second at garden (x, 0). -/
def staked (u : Int) (x : Nat) : State :=
  { State.reset with position := { State.reset.position with
      stakes := ⟨⟨true, 0, 0, 0, 0⟩, ⟨true, x, 0, u, 0⟩, ⟨true, 0, 1, 0, 1⟩⟩ } }

theorem meets_SolveReplacesTheTransform : capturing.takes (.calibrateSolve (.fields ())) ∧
    capturing.position.capture.isSome = true ∧ State.reset.takes (.calibrateSolve (.fields ())) ∧
    (State.reset.position.stakes.get .k1).isSet = false ∧
    (∀ u x, (staked u x).takes (.calibrateSolve (.fields ())) ∧ (staked u x).position.capture = none ∧
      ∀ k, ((staked u x).position.stakes.get k).isSet = true) ∧
    (let p := (staked 15 0).position.stakes; p.k1.rawX * (p.k2.rawY - p.k3.rawY) - p.k2.rawX * (p.k1.rawY - p.k3.rawY)
      + p.k3.rawX * (p.k1.rawY - p.k2.rawY) = 15) ∧
    (let p := (staked 16 16).position.stakes; p.k1.rawX * (p.k2.rawY - p.k3.rawY) - p.k2.rawX * (p.k1.rawY - p.k3.rawY)
      + p.k3.rawX * (p.k1.rawY - p.k2.rawY) = 16 ∧ p.solve = Coeffs.identity ∧ p.solve.overflow = none) ∧
    (∃ s : State, s.takes (.calibrateSolve (.fields ())) ∧ s.position.capture = none ∧
      (∀ k, (s.position.stakes.get k).isSet = true) ∧ s.position.stakes.solve.overflow = some 3) :=
  ⟨State.takes_config _ rfl rfl rfl rfl rfl rfl, rfl, State.takes_config _ rfl rfl rfl rfl rfl rfl, rfl,
    fun _ _ => ⟨State.takes_config _ rfl rfl rfl rfl rfl rfl, rfl, fun k => by cases k <;> rfl⟩, by decide, by decide,
    { State.reset with position := { State.reset.position with
      stakes := ⟨⟨true, 0, 0, 32767, 0⟩, ⟨true, 4799, 0, 32751, 0⟩, ⟨true, 0, 1, 32767, 1⟩⟩ } },
    State.takes_config _ rfl rfl rfl rfl rfl rfl, rfl, fun k => by cases k <;> rfl, by decide⟩

/-- The ends of the signed 32-bit range and the values beyond them. -/
theorem meets_SolveReplacesTheTransform_range : (Coeffs.mk 2147483647 (-2147483648) 0 0 0 0).overflow = none ∧
    (Coeffs.mk 2147483648 0 0 0 0 (-2147483649)).overflow = some 1 ∧
    (Coeffs.mk 0 0 0 0 0 (-2147483649)).overflow = some 6 := by decide

theorem meets_HoldAndReleasePauseAndResume (m : Mode) (x : MowerCtx) :
    ((bound m x).takes (.mowerHold (.fields 0)) ∧ (bound m x).takes (.mowerRelease (.fields 0)) ∧
      ((bound m x).slot .s0).cfg.source.isSome = true ∧ slotNo .s0 = 0 ∧ ((bound m x).mower .s0).state = x.state) ∧
    (ctx .mowing).state = .mowing ∧ (ctx (.paused .hold)).state = .paused .hold ∧ (ctx .docked).state ≠ .mowing ∧
    State.reset.takes (.mowerHold (.fields 3)) ∧ State.reset.takes (.mowerRelease (.fields 2)) ∧
    (State.reset.slot .s2).cfg.source = none :=
  ⟨⟨State.takes_both _ rfl rfl rfl rfl, State.takes_both _ rfl rfl rfl rfl, rfl, rfl, rfl⟩, rfl, rfl, by decide,
    State.takes_both _ rfl rfl rfl rfl, State.takes_both _ rfl rfl rfl rfl, rfl⟩

theorem meets_RecallAndClearFault (m : Mode) (x : MowerCtx) :
    ((bound m x).takes (.mowerRecall (.fields 0)) ∧ (bound m x).takes (.mowerClearFault (.fields 0)) ∧
      ((bound m x).slot .s0).cfg.source.isSome = true ∧ ((bound m x).mower .s0) = x ∧ (bound m x).mode = m ∧
      (bound m x).clock = none) ∧
    (ctx .mowing).state.working = true ∧ (ctx (.homebound .rain)).state = .homebound .rain ∧
    (ctx .absent).state.working = false ∧ (ctx .absent).state.isFaulted = false ∧
    (ctx (.faulted .lifted)).state.isFaulted = true ∧ (ctx (.faulted .lifted)).lastDocked = false ∧
    ({ ctx (.faulted .lifted) with lastDocked := true } : MowerCtx).lastDocked = true :=
  ⟨⟨State.takes_both _ rfl rfl rfl rfl, State.takes_both _ rfl rfl rfl rfl, rfl, rfl, rfl, rfl⟩, by decide⟩

/-- A FAULTED mower away from its dock, by mode, clock, switch, rain and quiet hours. -/
theorem meets_RecallAndClearFault_away :
    let s := fun (m : Mode) (clock : Option GardenClock) (on : Bool) (rain : RainState) =>
      ({ bound m (ctx (.faulted .lifted)) with
        clock := clock,
        planner := { State.reset.planner with rain := rain, cfg := { State.reset.planner.cfg with enabled := on } } } : State)
    (∀ m clock on rain, (s m clock on rain).takes (.mowerClearFault (.fields 0)) ∧ (s m clock on rain).mode = m ∧
      (s m clock on rain).clock = clock ∧ (s m clock on rain).planner.cfg.enabled = on ∧
      (s m clock on rain).planner.rain = rain ∧ ((s m clock on rain).mower .s0).lastDocked = false) ∧
    (s .run (some ⟨0, 28799⟩) true .dry).inQuiet = true ∧ (s .run (some ⟨0, 28800⟩) true .dry).inQuiet = false ∧
    RainState.wet ≠ .dry ∧ RainState.waiting ≠ .dry :=
  ⟨fun _ _ _ _ => ⟨State.takes_both _ rfl rfl rfl rfl, rfl, rfl, rfl, rfl, rfl⟩, by decide +kernel⟩

/-- A FAULTED mower away from its dock on a cell of a zone that is due, free and dry. -/
theorem meets_RecallAndClearFault_zone :
    let s : State := { row (ctx (.faulted .lifted)) .s1 [] none none with
      clock := some ⟨0, 43200⟩, ground := (lawn ⟨.absent, .absent, .absent, .absent⟩ none).ground,
      position := { State.reset.position with
        tracks := ⟨{ Track.empty with cell := some ⟨0, 0⟩, zone := some 0 }, Track.empty, Track.empty⟩ },
      planner := { State.reset.planner with
        cfg := { State.reset.planner.cfg with enabled := true }, due := [⟨0, 0⟩] } }
    let g := (s.toGarden.editMower .s0 (fun x => { x with outstanding := none })).enter .s0 (.paused .recovered)
    s.takes (.mowerClearFault (.fields 0)) ∧ s.mode = .run ∧ s.mayMow = true ∧ (s.track .s0).cell = some ⟨0, 0⟩ ∧
      (s.track .s0).zone = some 0 ∧ s.planner.due.find? (fun e => e.zone = 0) = some ⟨0, 0⟩ ∧
      g.dueAndFree ⟨0, 0⟩ = true ∧ s.ground.grid.wf = true ∧ (s.ground.cell ⟨0, 0⟩).zone = some 0 ∧
      g.ground.mowable ⟨0, 0⟩ = true ∧ (s.ground.cell ⟨0, 0⟩).lastMown = none :=
  ⟨State.takes_both _ rfl rfl rfl rfl, rfl, by decide +kernel⟩

/-- A charged mower at its dock in RUN, mowing enabled or not, the clock set. -/
def ready (on : Bool) (battery : Nat) : State :=
  let s := bound .run { ctx .docked with battery := some battery, lastDocked := true }
  { s with clock := some ⟨0, 43200⟩, planner := { s.planner with cfg := { s.planner.cfg with enabled := on } } }

theorem meets_DispatchGivesALane : (bound .run (ctx .lost)).takes (.mowerDispatch (.fields 0)) ∧
    ((bound .run (ctx .lost)).mower .s0).state.atDock = false ∧
    (∀ on n, (ready on n).takes (.mowerDispatch (.fields 0)) ∧ ((ready on n).slot .s0).cfg.source.isSome = true ∧
      ((ready on n).mower .s0).state.atDock = true) ∧ (ready true 79).charged .s0 = false ∧
    ((ready false 80).charged .s0 = true ∧ (ready false 80).mayMow = false) ∧
    (ready true 80).charged .s0 = true ∧ (ready true 80).mayMow = true ∧
    (let g := (row (ctx .docked) .s1 [] none none).toGarden;
      g.ground.grid.wf = true ∧ g.availableTo .s0 0 ⟨1, 0⟩ ∧ (g.ground.cell ⟨3, 0⟩).zone = none ∧
      ∃ x, g.buildLane .s0 0 = some x ∧ x.cells = [⟨0, 0⟩, ⟨1, 0⟩, ⟨2, 0⟩]) ∧
    State.reset.ground.grid.wf = true ∧ ∀ a, ¬ State.reset.availableTo .s0 0 a :=
  ⟨State.takes_runOnly _ rfl rfl rfl rfl rfl, rfl, fun _ _ => ⟨State.takes_runOnly _ rfl rfl rfl rfl rfl, rfl, rfl⟩,
    by decide +kernel, by decide +kernel, by decide +kernel, by decide +kernel,
    ⟨by decide +kernel, by unfold Garden.availableTo; decide +kernel, by decide +kernel, _, rfl, by decide +kernel⟩, rfl,
    fun _ h => nomatch h.1⟩

/-- A charged mower at its dock in RUN, and a zone due with an unmown cell; a slot out of range and one without a
source. -/
theorem meets_DispatchGivesALane_dispatched :
    let s := { row { ctx .docked with battery := some 80, lastDocked := true } .s1 [] none none with
      clock := some ⟨0, 43200⟩, ground := (lawn ⟨.absent, .absent, .absent, .absent⟩ none).ground,
      planner := { State.reset.planner with
        cfg := { State.reset.planner.cfg with enabled := true }, due := [⟨0, 0⟩] } }
    (∀ n, s.takes (.mowerDispatch (.fields n))) ∧ (s.slot .s0).cfg.source.isSome = true ∧
      (s.mower .s0).state.atDock = true ∧ s.charged .s0 = true ∧ s.mayMow = true ∧
      s.planner.due.find? s.dueAndFree = some ⟨0, 0⟩ ∧ s.ground.grid.wf = true ∧
      (s.ground.cell ⟨0, 0⟩).zone = some 0 ∧ s.ground.mowable ⟨0, 0⟩ = true ∧ (s.ground.cell ⟨0, 0⟩).lastMown = none ∧
      2 < 3 ∧ 2 = slotNo .s2 ∧ (s.slot .s2).cfg.source = none :=
  ⟨fun _ => State.takes_runOnly _ rfl rfl rfl rfl rfl, rfl, rfl, by decide +kernel⟩

theorem meets_HeartbeatLost :
    (let s := later 6 (bound .run { ctx .mowing with deadline := some 6000 });
      (s.mower .s0).state.supervised = true ∧ (s.mower .s0).state.working = true ∧ (s.mower .s0).deadline = some 6000 ∧
      6000 / 1000 ≤ s.time.secs) ∧
    (let s := later 6 (bound .run { ctx (.homebound .rain) with deadline := some 6999 });
      (s.mower .s0).state.supervised = true ∧ (s.mower .s0).state.working = false ∧ (s.mower .s0).deadline = some 6999 ∧
      6999 / 1000 ≤ s.time.secs) ∧
    (let s := later 5 (bound .run { ctx .mowing with deadline := some 6000 });
      (s.mower .s0).state.supervised = true ∧ ∀ d ∈ (s.mower .s0).deadline, s.time.secs < d / 1000) ∧
    (State.reset.mower .s0).state.supervised = false := by decide +kernel

theorem meets_FleetSetBindsTheSlot :
    (∀ q, State.reset.takes (.fleetSet (.fields q)) ∧ capturing.takes (.fleetSet (.fields q))) ∧
    (40 < FleetSet.source ⟨0, 41, 0, 0, 0, 0⟩ ∧ max 10 (min 100 10) ≤ max 5 (min 95 10)) ∧
    (index? 40 1 = some 0 ∧ (capturing.slot .s0).cfg.source = some 0 ∧ slotNo .s1 = 1) ∧
    (∀ j i, j ≠ Slot.s0 → index? 40 40 = some i → (State.reset.slot j).cfg.source ≠ some i) ∧
    (index? 40 40 ≠ (State.reset.slot .s0).cfg.source) ∧ (index? 40 1 = (capturing.slot .s0).cfg.source) ∧
    (∃ p, capturing.position.capture = some p ∧ p.slot = .s0) :=
  ⟨fun _ => ⟨State.takes_config _ rfl rfl rfl rfl rfl rfl, State.takes_config _ rfl rfl rfl rfl rfl rfl⟩, by decide, by decide,
    fun j i _ _ => by cases j <;> nofun, by decide, by decide, _, rfl, rfl⟩

/-! ### The planner -/

theorem meets_PlanSettingsWritten : (∀ q, State.reset.takes (.planSet (.fields q))) ∧ State.reset.planner.quiet = false ∧
    (∀ b, State.reset.takes (.mowingEnable (.fields b))) ∧ State.reset.mode = .setup ∧
    (∃ s : State, s.takes (.planSet (.fields ⟨10, 5, 0, 0, 1439⟩)) ∧ s.planner.quiet = true) :=
  ⟨fun _ => State.takes_config _ rfl rfl rfl rfl rfl rfl, rfl, fun _ => State.takes_both _ rfl rfl rfl rfl, rfl,
    { clocked .setup with planner := { State.reset.planner with quiet := true } },
    State.takes_config _ rfl rfl rfl rfl rfl rfl, rfl⟩

/-- Quiet hours that begin, last, end and do not hold, and the switch in RUN. -/
theorem meets_PlanSettingsWritten_quiet :
    let s := fun quiet => { bound .setup (ctx .mowing) with
      clock := some ⟨0, 0⟩, planner := { State.reset.planner with quiet := quiet } }
    (∀ quiet q, (s quiet).takes (.planSet (.fields q)) ∧ (s quiet).planner.quiet = quiet) ∧
      (∃ t, exec (.planSet (.fields ⟨10, 5, 0, 0, 1⟩)) (s false) = .next t ∧ t.planner.quiet = true ∧
        ((s false).mower .s0).state.working = true) ∧
      (∃ t, exec (.planSet (.fields ⟨10, 5, 0, 0, 1⟩)) (s true) = .next t ∧ t.planner.quiet = true) ∧
      (∃ t, exec (.planSet (.fields ⟨10, 5, 0, 0, 0⟩)) (s true) = .next t ∧ t.planner.quiet = false) ∧
      (∃ t, exec (.planSet (.fields ⟨10, 5, 0, 0, 0⟩)) (s false) = .next t ∧ t.planner.quiet = false) ∧
      running.takes (.mowingEnable (.fields true)) ∧ running.mode = .run :=
  ⟨fun _ _ => ⟨State.takes_config _ rfl rfl rfl rfl rfl rfl, rfl⟩, ⟨_, rfl, by decide +kernel⟩, ⟨_, rfl, by decide +kernel⟩,
    ⟨_, rfl, by decide +kernel⟩, ⟨_, rfl, by decide +kernel⟩, State.takes_both _ rfl rfl rfl rfl, rfl⟩

/-- A zone that joins the queue and one that does not, and a queue built with the clock set. -/
theorem meets_PlanSettingsWritten_queue :
    (let g := (row (ctx .docked) .s1 [] none none).toGarden;
      g.ground.grid.wf = true ∧ g.ground.eligible 0 = true ∧ g.ground.eligible 1 = false ∧ g.clock = none ∧
      g.dueSorted) ∧ (clocked .run).clock.isSome = true :=
  ⟨⟨by decide +kernel, by decide +kernel, by decide +kernel, rfl, .nil⟩, rfl⟩

/-- Quiet hours across midnight, within a day, and none (R97). -/
theorem meets_PlanSettingsWritten_window :
    let c := fun a b => { PlanCfg.factory with quietStart := a, quietEnd := b }
    ([75599, 75600, 28799, 28800].map (quietAt (c 1260 480)) = [false, true, true, false]) ∧
    ([28799, 28800, 75599, 75600].map (quietAt (c 480 1260)) = [false, true, true, false]) ∧
    quietAt (c 480 480) 28800 = false := by decide

/-- Slot 0 in a state, with a lane of one cell and a yield record on it, the cell claimed or not. -/
def lane (x : MowerCtx) (claim : Option Slot) : State :=
  { bound .run x with
    ground := (lawn ⟨.absent, .absent, .absent, .absent⟩ claim).ground,
    planner := { State.reset.planner with
      lanes := ⟨some ⟨0, 0, .increasing, [⟨0, 0⟩], 0, 1, 0, 25, 50, 25, some 180000⟩, none, none⟩,
      yields := ⟨some ⟨⟨0, 0⟩, 30000⟩, none, none⟩ } }

/-- A fill over the claimed cell of a mower MOWING, PAUSED and PAUSED (WET) already, with a lane and without one; a body both
out of order and out of range. -/
theorem meets_MapFillFillsTheRectangle_notices :
    (∀ x ∈ [MowerState.mowing, .paused .hold, .paused .wet],
      let s : State := { lane (ctx x) (some .s0) with mode := .setup }
      let n : State := { s with planner := State.reset.planner }
      (x = .mowing ∨ x.isPaused = true) ∧ (s.ground.cell ⟨0, 0⟩).claim = some .s0 ∧
        (s.ground.cell ⟨0, 0⟩).zone ≠ index? 48 48 ∧ (s.mower .s0).state = x ∧ s.ground.grid.wf = true ∧
        (s.lane .s0).isSome = true ∧ n.lane .s0 = none ∧ (n.ground.cell ⟨0, 0⟩).claim = some .s0) ∧
    (∀ x claim q, State.takes { lane x claim with mode := .setup } (.mapFill (.fields q))) ∧
    (MapFill.mk 96 0 0 0 49).lastCol < (MapFill.mk 96 0 0 0 49).firstCol :=
  ⟨by decide +kernel, fun _ _ _ => State.takes_config _ rfl rfl rfl rfl rfl rfl, by decide⟩

/-- A lane in a zone that is withdrawn, of a mower in each state of R92's table. -/
theorem meets_ZonesLeaveAndJoinTheMowingView_lanes :
    ∀ x ∈ [MowerState.outbound, .paused .yield, .mowing, .paused .hold],
      (lane (ctx x) (some .s0)).takes (.zoneWithdraw (.fields 1)) ∧
      ((lane (ctx x) (some .s0)).ground.zone 0).cfg.withdrawn = false ∧
      (∃ l, (lane (ctx x) (some .s0)).lane .s0 = some l ∧ l.zone = 0 ∧ l.cells[l.current]? = some ⟨0, 0⟩) ∧
      ((lane (ctx x) (some .s0)).mower .s0).state = x ∧ (lane (ctx x) (some .s0)).ground.grid.wf = true ∧
      PauseCause.hold ≠ .yield :=
  fun _ _ => ⟨State.takes_both _ rfl rfl rfl rfl, (by decide +kernel :
      ((lane (ctx .mowing) (some .s0)).ground.zone 0).cfg.withdrawn = false), ⟨_, rfl, rfl, rfl⟩, rfl,
    (by decide +kernel : (lane (ctx .mowing) (some .s0)).ground.grid.wf = true), by decide⟩

theorem meets_ArrivalAndYieldExpire (x : MowerCtx) :
    (∃ l, (later 180 (lane x none)).lane .s0 = some l ∧ l.arrival = some 180000 ∧
      180000 / 1000 ≤ (later 180 (lane x none)).time.secs ∧
      ((lane x none).mower .s0).state = x.state) ∧
    (∀ e ∈ (later 179 (lane x none)).arrivalOf .s0, (later 179 (lane x none)).time.secs < e / 1000) ∧
    State.reset.arrivalOf .s0 = none ∧
    (∃ y, (later 30 (lane x none)).planner.yields.get .s0 = some y ∧ y.cell = ⟨0, 0⟩ ∧
      y.expiry / 1000 ≤ (later 30 (lane x none)).time.secs) ∧
    (∀ y ∈ (later 29 (lane x none)).planner.yields.get .s0, (later 29 (lane x none)).time.secs < y.expiry / 1000) ∧
    (lane (ctx (.paused .yield)) none).ground.claimAnswer .s0 ⟨0, 0⟩ = .granted ∧
    (lane (ctx (.paused .yield)) (some .s1)).ground.claimAnswer .s0 ⟨0, 0⟩ ≠ .granted ∧
    (ctx (.paused .yield)).state = .paused .yield ∧ State.reset.planner.yields.get .s0 = none := by
  refine ⟨⟨_, rfl, rfl, (by decide : 180000 / 1000 ≤ 180), rfl⟩, fun e h => ?_, rfl,
    ⟨_, rfl, rfl, (by decide : 30000 / 1000 ≤ 30)⟩, fun y h => ?_, by decide +kernel, by decide +kernel, rfl, rfl⟩
  · exact Option.some.inj h ▸ (by decide : 179 < 180000 / 1000)
  · exact Option.some.inj h ▸ (by decide : 29 < 30000 / 1000)

/-- Lanes of three cells whose first is claimed by the slot or by another one. -/
theorem meets_ArrivalAndYieldExpire_lanes :
    let cells : List CellAddr := [⟨0, 0⟩, ⟨1, 0⟩, ⟨2, 0⟩]
    let g := fun (x : MowerState) (k : Slot) (c : List CellAddr) => (row (ctx x) k c (some ⟨1, 0⟩) none).toGarden
    (∃ l, (g .outbound .s1 cells).lane .s0 = some l ∧ l.cells.head? = some ⟨0, 0⟩ ∧ l.current = 0 ∧ l.cells.Nodup ∧
      ((g .outbound .s1 cells).track .s0).cell = some ⟨1, 0⟩ ∧ l.cells.idxOf? ⟨1, 0⟩ = some 1 ∧
      l.cells[l.current]? ≠ some ⟨1, 0⟩) ∧
    (g .outbound .s1 cells).ground.grid.wf = true ∧ (g .outbound .s1 cells).ground.claimAnswer .s0 ⟨0, 0⟩ = .yield ∧
    (g .outbound .s0 cells).ground.claimAnswer .s0 ⟨0, 0⟩ = .granted ∧ ⟨1, 0⟩ ∉ ([⟨2, 0⟩] : List CellAddr) ∧
    (∀ b ∈ cells, (g .mowing .s0 cells).ground.claimAnswer .s0 b = .granted) ∧
    ((g .mowing .s1 [⟨2, 0⟩, ⟨0, 0⟩]).ground.claimAnswer .s0 ⟨2, 0⟩ = .granted ∧
      (g .mowing .s1 [⟨2, 0⟩, ⟨0, 0⟩]).planner.yields.get .s0 = none ∧
        (g .mowing .s1 cells.reverse).ground.claimAnswer .s0 ⟨1, 0⟩ = .granted) ∧
    (g .mowing .s1 [⟨3, 0⟩]).ground.claimAnswer .s0 ⟨3, 0⟩ = .unmowable ∧
    ((g .mowing .s0 cells).planner.cfg.enabled = true ∧ ((g .mowing .s0 cells).ground.zone 0).assigned = some .s0 ∧
      ((g .mowing .s0 cells).ground.zone 0).wet = false ∧ (g .mowing .s0 cells).availableTo .s0 0 ⟨1, 0⟩) ∧
    State.reset.planner.cfg.enabled = false := by
  refine ⟨⟨_, rfl, by decide +kernel⟩, by decide +kernel, by decide +kernel, by decide +kernel, by decide, by decide +kernel,
    by decide +kernel, by decide +kernel, ⟨by decide +kernel, by decide +kernel, by decide +kernel,
      by unfold Garden.availableTo; decide +kernel⟩, rfl⟩

/-- A mower that yields at a cell held by another one, free, wet and in no zone, and a slot with no yield record. -/
theorem meets_ArrivalAndYieldExpire_retry :
    let g := fun (y : CellAddr) (holder : Slot) (marks : ByNozzle MarkState) =>
      let s := row (ctx (.paused .yield)) holder [⟨1, 0⟩, ⟨0, 0⟩] none (some ⟨y, 30000⟩)
      { s.toGarden with ground := { s.ground with
          zones := s.ground.zones.map (fun (z : Zone) => { z with splashMarks := marks }) } }
    let dry : ByNozzle MarkState := ⟨.absent, .absent, .absent, .absent⟩
    (∀ y holder marks, (g y holder marks).planner.yields.get .s0 = some ⟨y, 30000⟩ ∧
      ((g y holder marks).mower .s0).state = .paused .yield ∧ ((g y holder marks).lane .s0).isSome = true) ∧
      (g ⟨0, 0⟩ .s1 dry).ground.claimAnswer .s0 ⟨0, 0⟩ = .yield ∧
      (g ⟨1, 0⟩ .s1 dry).ground.claimAnswer .s0 ⟨1, 0⟩ = .granted ∧
      (g ⟨1, 0⟩ .s1 ⟨.held, .absent, .absent, .absent⟩).ground.claimAnswer .s0 ⟨1, 0⟩ = .wet ∧
      (g ⟨3, 0⟩ .s1 dry).ground.claimAnswer .s0 ⟨3, 0⟩ = .unmowable ∧
      State.reset.planner.yields.get .s0 = none :=
  ⟨fun _ _ _ => ⟨rfl, rfl, rfl⟩, by decide +kernel, by decide +kernel, by decide +kernel, by decide +kernel, rfl⟩

theorem meets_PlannerTimers : State.reset.mode = .setup ∧ (State.reset.mower .s0).state.atDock = false ∧
    (later 60 State.reset).planner.passTimer / 1000 ≤ (later 60 State.reset).time.secs ∧
    (later 59 State.reset).time.secs < (later 59 State.reset).planner.passTimer / 1000 ∧
    (∃ s : State, s.mode = .setup ∧ s.planner.rain = .waiting ∧ s.planner.dryWaitExpiry = some 60000 ∧
      60000 / 1000 ≤ s.time.secs) ∧
    State.reset.planner.rain ≠ .waiting ∧ State.reset.planner.dryWaitExpiry = none ∧
    State.reset.silentFor .rain 1800 = false ∧
    (later 1800 (heard 39 (fresh .rain) FieldRx.idle)).silentFor .rain 1800 = false ∧
    (later 1801 (heard 39 (fresh .rain) FieldRx.idle)).silentFor .rain 1800 = true ∧
    (later 1801 (heard 39 (fresh .rain) FieldRx.idle)).planner.rainOnset = false :=
  ⟨rfl, rfl, by decide, by decide,
    ⟨later 60 { State.reset with planner := { State.reset.planner with rain := .waiting, dryWaitExpiry := some 60000 } },
    rfl, rfl, rfl, by decide⟩, by decide, rfl, by decide +kernel, by decide +kernel, by decide +kernel, rfl⟩

/-- A ready mower in RUN, and a zone due with an unmown cell. -/
theorem meets_PlannerTimers_dispatch :
    let s := later 60 { row { ctx .docked with battery := some 80, lastDocked := true } .s1 [] none none with
      clock := some ⟨0, 43200⟩, ground := (lawn ⟨.absent, .absent, .absent, .absent⟩ none).ground,
      planner := { State.reset.planner with
        cfg := { State.reset.planner.cfg with enabled := true }, due := [⟨0, 0⟩] } }
    s.mode = .run ∧ s.mayMow = true ∧ s.ready .s0 = true ∧ s.planner.due.find? s.dueAndFree = some ⟨0, 0⟩ ∧
      s.ground.grid.wf = true ∧ (s.ground.cell ⟨0, 0⟩).zone = some 0 ∧ s.ground.mowable ⟨0, 0⟩ = true ∧
      (s.ground.cell ⟨0, 0⟩).lastMown = none ∧ s.planner.passTimer / 1000 ≤ s.time.secs := by decide +kernel

/-! ### The Water Unit -/

/-- Reset with a filter. -/
def filtering (f : Filter) : State := { State.reset with water := { State.reset.water with filter := f } }

theorem meets_WaterSettingsWritten :
    (∀ q, State.reset.takes (.waterLevelsSet (.fields q))) ∧ (∀ q, State.reset.takes (.topupSet (.fields q))) ∧
    (∀ q, State.reset.takes (.filterSet (.fields q))) ∧ (∀ q, State.reset.takes (.pumpCurveSet (.fields q))) ∧
    (State.reset.water.topup = .opened ∧ min 240 0 * 60 ≤ State.reset.water.capCount) ∧
    ¬ (min 1500 1500 < min 1500 1501) ∧ max 11 (min 4000 11) ≤ max 10 (min 2000 11) ∧
    (factoryCurve.map (fun x => min 3000 x)).toList.Pairwise (fun a b => a ≤ b) ∧
    ¬ (tset factoryCurve 15 0).toList.Pairwise (fun a b => a ≤ b) ∧
    (∀ f, (filtering f).water.filter = f) ∧
    FilterSet.merit ⟨0, 0, 0, 0, .named .flow, 0, 0, 0, 0, 0, 0, 0⟩ = .named .flow :=
  ⟨fun _ => State.takes_config _ rfl rfl rfl rfl rfl rfl, fun _ => State.takes_config _ rfl rfl rfl rfl rfl rfl,
    fun _ => State.takes_config _ rfl rfl rfl rfl rfl rfl, fun _ => State.takes_config _ rfl rfl rfl rfl rfl rfl,
    by decide, by decide, by decide, by decide +kernel, by decide +kernel, fun _ => rfl, rfl⟩

/-- A top-up in OPEN under its cap, with its watts changed and kept; a merit type with no name. -/
theorem meets_WaterSettingsWritten_topup : State.reset.water.topup = .opened ∧
    State.reset.water.capCount < min 240 1 * 60 ∧ (State.reset.load topupLoad).askA = max 1 (min 100 30) ∧
    (State.reset.load topupLoad).askA ≠ max 1 (min 100 0) ∧ (State.reset.load topupLoad).askB = 0 ∧
    State.reset.power.realloc = false ∧
    ({ State.reset with water := { State.reset.water with topup := .capped } } : State).water.topup = .capped ∧
    FilterSet.merit ⟨0, 0, 0, 0, .unknown 0, 0, 0, 0, 0, 0, 0, 0⟩ = .unknown 0 := by decide +kernel

theorem meets_FilterStartsStopsAndClears (f : Filter) :
    (filtering f).takes (.filterStart (.fields ())) ∧ (filtering f).takes (.filterStop (.fields ())) ∧
    (filtering f).takes (.filterClearFault (.fields ())) ∧ (filtering f).water.filter.state = f.state ∧
    Filter.start.state = .stopped ∧ State.reset.water.starved = true ∧
    (filtering f).power.fnTripped .filterPump = false ∧ (filtering f).power.fnTripped .backwashValve = false ∧
    (∃ s : State, s.water.filter.state = .stopped ∧ s.water.starved = false) ∧
    (withChannel { Channel.start ⟨.relay, some .backwashValve, 0, 10000⟩ with state := .tripped }).power.fnTripped
      .backwashValve = true :=
  ⟨State.takes_both _ rfl rfl rfl rfl, State.takes_both _ rfl rfl rfl rfl, State.takes_both _ rfl rfl rfl rfl, rfl, rfl, rfl,
    (by decide +kernel : State.reset.power.fnTripped .filterPump = false),
    (by decide +kernel : State.reset.power.fnTripped .backwashValve = false),
    ⟨{ State.reset with water := { State.reset.water with filter := Filter.start, starved := false } }, rfl, rfl⟩,
    by decide +kernel⟩

/-- A filter LOCKED at the minimum step with its watts granted, and zone 1 the discharge zone. -/
def locked : State :=
  { State.reset with
    ground := { State.reset.ground with
      zones := tset State.reset.ground.zones 0 (Zone.fresh { ZoneCfg.factory with kind := .lawn, discharge := true }) },
    water := { State.reset.water with starved := false, filter := { Filter.start with state := .locked, step := 3 } },
    power := { State.reset.power with loads := tset State.reset.power.loads filterLoad ⟨180, 0, 180, 0, false⟩ } }

theorem meets_BackwashStartsAndEnds (f : Filter) : (filtering f).takes (.filterBackwash (.fields ())) ∧
    (filtering f).water.filter = f ∧
    (∃ x, ({ Filter.start with state := .locked, lastBackwashEnd := some 0 } : Filter).lastBackwashEnd = some x ∧
      State.reset.now < x + State.reset.water.cfg.filter.backwashSpacing * 3600000) ∧
    (∃ s : State, s.water.filter.state = .locked ∧ s.power.fnTripped .backwashValve = false ∧
      (s.load filterLoad).askA = s.water.cfg.watts s.water.cfg.minStep ∧
      s.water.cfg.watts s.water.cfg.minStep ≤ s.power.available ∧ s.power.fnTripped .filterPump = false ∧
      s.ground.dischargeZone = some 0 ∧ s.ground.grid.wf = true ∧ s.water.starved = false) ∧
    (withChannel { Channel.start ⟨.relay, some .backwashValve, 0, 10000⟩ with state := .tripped }).power.fnTripped
      .backwashValve = true ∧
    (let s := fun n => later n (filtering { Filter.start with state := .backwash, backwashExpiry := some 120999 });
      (s 120).water.filter.state = .backwash ∧ (s 120).water.filter.backwashExpiry = some 120999 ∧
      120999 / 1000 ≤ (s 120).time.secs ∧ ∀ x ∈ (s 119).water.filter.backwashExpiry, (s 119).time.secs < x / 1000) ∧
    Filter.start.state ≠ .backwash ∧ Filter.start.backwashExpiry = none :=
  ⟨State.takes_both _ rfl rfl rfl rfl, rfl, ⟨0, rfl, by decide⟩, ⟨locked, by decide +kernel⟩, by decide +kernel, by decide,
    by decide, rfl⟩

/-- A MOWING mower with a claim in the discharge zone where a backwash starts, with a channel for the valve and another set
of causes; a backwash that ends with the zone HELD. -/
theorem meets_BackwashStartsAndEnds_effects :
    (let s : State := { locked with
        ground := { locked.ground with grid := [(0, ⟨some 0, some .s0, false, none⟩)] },
        fleet := (bound .run (ctx .mowing)).fleet,
        power := { (withChannel (Channel.start ⟨.relay, some .backwashValve, 0, 10000⟩)).power with
          loads := locked.power.loads } };
      s.takes (.filterBackwash (.fields ())) ∧ s.water.filter.state = .locked ∧ s.water.filter.lastBackwashEnd = none ∧
        s.power.fnTripped .backwashValve = false ∧ (s.load filterLoad).askA = s.water.cfg.watts s.water.cfg.minStep ∧
        s.water.cfg.watts s.water.cfg.minStep ≤ s.power.available ∧ s.power.fnTripped .filterPump = false ∧
        s.power.channelOf .backwashValve = some 0 ∧
        s.water.causes ≠ ⟨s.water.supplyLow, true, s.power.fnTripped .fountainPump⟩ ∧ s.shows.dry = s.withheld ∧
        s.ground.dischargeZone = some 0 ∧ s.ground.grid.wf = true ∧ (s.ground.cell ⟨0, 0⟩).zone = some 0 ∧
        (s.ground.cell ⟨0, 0⟩).claim = some .s0 ∧ (s.mower .s0).state = .mowing ∧ s.lane .s0 = none) ∧
    (let s : State := { later 120 (filtering { Filter.start with state := .backwash, backwashExpiry := some 120999 }) with
        ground := { State.reset.ground with
          zones := tset State.reset.ground.zones 0 { Zone.fresh ZoneCfg.factory with dischargeMark := .held } } };
      (s.ground.zone 0).dischargeMark = .held ∧ (s.ground.zone 1).dischargeMark = .absent ∧
        s.water.filter.state = .backwash ∧ 120999 / 1000 ≤ s.time.secs ∧ s.shows.dry = s.withheld) :=
  ⟨⟨State.takes_both _ rfl rfl rfl rfl, by decide +kernel⟩, by decide +kernel⟩

theorem meets_LevelsAndTopupCap : (1500 = (if 3000000 ≤ 3000000 then 1500 else 0)) ∧
    State.reset.water.filter.state = .starved ∧ locked.water.filter.state = .locked ∧
    (State.reset.water.causes = ⟨State.reset.water.supplyLow, false, State.reset.power.fnTripped .fountainPump⟩ ∧
      State.reset.power.fnTripped .fountainPump = false ∧ State.reset.shows.dry = State.reset.water.supplyLow ∧
      levelFlag State.reset.water.supplyLow State.reset.water.cfg.levels.fountainLow
        (State.reset.water.cfg.levels.fountainLow + 10) 1500 ≠ State.reset.water.supplyLow) ∧
    (∃ s : State, s.water.topup = .opened ∧ s.water.cfg.capMinutes * 60 = 1800 ∧ s.water.capCount = 1800) ∧
    State.reset.water.capCount < State.reset.water.cfg.capMinutes * 60 ∧
    ((later 86400 State.reset).clock = none ∧
      (later 86400 State.reset).water.capFrom + 86400 ≤ (later 86400 State.reset).time.secs ∧
      (later 86399 State.reset).time.secs < (later 86399 State.reset).water.capFrom + 86400) ∧
    (clocked .run).clock.isSome = true :=
  ⟨rfl, rfl, rfl, by decide +kernel,
    ⟨{ State.reset with water := { State.reset.water with capCount := 1800 } }, rfl, rfl, rfl⟩, by decide,
    ⟨rfl, by decide, by decide⟩, rfl⟩

/-- Valves that a demand and its end move: CLOSED under the cap and at it, CAPPED, waiting, TRIPPED; the end of a cap period
with the demand on and off and with a cap of 0. -/
theorem meets_LevelsAndTopupCap_valve :
    let s := fun (v : TopupState) (count cap ask : Nat) (demand : Bool) => ({ State.reset with
      water := { State.reset.water with
        topup := v, capCount := count, demand := demand, cfg := { State.reset.water.cfg with capMinutes := cap } },
      power := { State.reset.power with loads := tset State.reset.power.loads topupLoad ⟨ask, 0, ask, 0, false⟩ } } : State)
    let flag := fun (s : State) (l : Nat) =>
      levelFlag s.water.demand s.water.cfg.levels.fillOn s.water.cfg.levels.fillOff l
    flag (s .closed 0 30 0 false) 0 = true ∧ flag (s .opened 0 30 30 true) 1500 = false ∧
      (s .closed 1800 30 0 false).water.cfg.capMinutes * 60 = 1800 ∧ (s .closed 1799 30 0 false).water.capCount < 30 * 60 ∧
      ((s .closed 1799 30 0 false).load topupLoad).askA ≠ (s .closed 1799 30 0 false).water.cfg.topupWatts ∧
      (s .capped 9 0 0 true).water.cfg.capMinutes = 0 ∧ (s .capped 9 1 0 true).water.cfg.capMinutes ≠ 0 ∧
      (s .capped 9 1 0 true).water.cfg.topupWatts ≠ 0 ∧ (s .tripped 0 30 0 true).water.topup = .tripped ∧
      (s .opened 9 30 30 true).power.realloc = false ∧ (s .opened 9 30 30 true).clock = none ∧
      levelFlag State.reset.water.starved State.reset.water.cfg.levels.filterLow
        (State.reset.water.cfg.levels.filterLow + 10) 1500 = false := by decide +kernel

theorem meets_GatesOpenCountAndClose :
    (let s := fun n => later n (filtering { Filter.start with
        state := .searching, search := some ⟨3, 3, .settling, none, none, 0, 0, some 30999⟩ });
      ∃ r, (s 30).water.filter.state = .searching ∧ (s 30).water.filter.search = some r ∧ r.phase = .settling ∧
        r.expiry = some 30999 ∧ 30999 / 1000 ≤ (s 30).time.secs ∧ (s 29).time.secs < 30999 / 1000) ∧
    State.reset.water.filter.state ≠ .searching ∧
    (let s := fun n => later n (filtering { Filter.start with state := .locked, monitor := some 60999 });
      (s 60).water.filter.state = .locked ∧ (s 60).water.filter.monitor = some 60999 ∧
      60999 / 1000 ≤ (s 60).time.secs ∧ ∀ x ∈ (s 59).water.filter.monitor, (s 59).time.secs < x / 1000) ∧
    State.reset.water.filter.state ≠ .locked ∧ State.reset.water.filter.gate = none ∧
    (let s := fun p n => later n (filtering { Filter.start with
        state := .locked, step := 3, gate := some ⟨p, 10999⟩, zeroFlow := 2, failing := 1 });
      (∃ g, (s 0 10).water.filter.gate = some g ∧ g.closes / 1000 ≤ (s 0 10).time.secs ∧
        (s 0 10).water.cfg.minStep ≤ (s 0 10).water.filter.step ∧ 2 ≤ (s 0 10).water.filter.zeroFlow ∧
        min 65535 (g.pulses * 6000 / (s 0 10).water.cfg.filter.k100) = 0) ∧
      (∃ g, (s 65535 10).water.filter.gate = some g ∧ (s 65535 10).water.filter.powerLimited = false ∧
        min 65535 (g.pulses * 6000 / (s 65535 10).water.cfg.filter.k100) = 65535 ∧
        (s 65535 10).water.cfg.filter.qMin ≤ 65535 ∧ 0 + (s 65535 10).water.cfg.filter.dpClog ≥ 350 ∧
        0 + (s 65535 10).water.cfg.filter.dpClog < 351) ∧
      (∃ g, (s 79 10).water.filter.gate = some g ∧
        min 65535 (g.pulses * 6000 / (s 79 10).water.cfg.filter.k100) = 395 ∧
        395 < (s 79 10).water.cfg.filter.qMin ∧
        (s 79 10).water.filter.failing + 1 < (s 79 10).water.cfg.filter.confirmCount ∧ (s 79 10).power.realloc = false) ∧
      ∀ g ∈ (s 0 9).water.filter.gate, (s 0 9).time.secs < g.closes / 1000) ∧
    ({ Filter.start with failing := 2 } : Filter).failing + 1 = FilterCfg.factory.confirmCount :=
  ⟨⟨_, rfl, rfl, rfl, rfl, by decide, by decide⟩, by decide, by decide, by decide, rfl,
    ⟨⟨_, rfl, by decide⟩, ⟨_, rfl, by decide⟩, ⟨_, rfl, by decide⟩, by decide⟩, rfl⟩

/-- The last check of a lock on a clog, one over the pressure limit, with the lock's ask posted; a third result at no flow in a
search and in a lock. -/
theorem meets_GatesOpenCountAndClose_last :
    let s := fun st p z => later 10 { locked with water := { locked.water with filter := { Filter.start with
      state := st, step := 3, gate := some ⟨p, 10999⟩, failing := 2, zeroFlow := z } } }
    (s .locked 81 0).water.filter.state = .locked ∧
      min 65535 (81 * 6000 / (s .locked 81 0).water.cfg.filter.k100) ≠ 0 ∧
      0 + (s .locked 81 0).water.cfg.filter.dpClog < 351 ∧
      (s .locked 81 0).water.cfg.filter.confirmCount ≤ (s .locked 81 0).water.filter.failing + 1 ∧
      ((s .locked 81 0).load filterLoad).askA =
        (s .locked 81 0).water.cfg.watts (s .locked 81 0).water.cfg.minStep ∧
      (s .searching 0 2).water.filter.state = .searching ∧
      (s .searching 0 2).water.cfg.minStep ≤ (s .searching 0 2).water.filter.step ∧
      2 ≤ (s .searching 0 2).water.filter.zeroFlow ∧ (s .locked 0 2).water.filter.state = .locked := by
  decide +kernel

/-- Trials that end a search and that go on, and grants over, at and under the watts of a step. -/
theorem meets_GatesOpenCountAndClose_trials :
    (let b := (filtering { Filter.start with state := .searching }).toBench;
      b.water.filter.state = .searching ∧ b.water.filter.powerLimited = false ∧ b.water.filter.marginal = false) ∧
    (∀ r ∈ [Search.mk 3 3 .gating none none 0 0 none, ⟨3, 16, .gating, some 15, some 0, 0, 13, none⟩,
        ⟨3, 5, .gating, some 3, some 366, 1, 2, none⟩],
      let beats := r.bestStep.isNone || decide (r.bestFom.getD 0 < 366)
      (r.candidate = 16 ∧ beats = true) ∨ (r.candidate ≠ 16 ∧ beats = true) ∨
        (beats = false ∧ FilterCfg.factory.lookBeyond ≤ r.look + 1)) ∧
    (let b := fun (f : Filter) (a g : Nat) => { (filtering f).toBench with power := { State.reset.power with
        loads := tset State.reset.power.loads filterLoad ⟨180, 0, a, g, false⟩ } };
      let f := { Filter.start with state := .locked, lockedStep := some 5 };
      let w := WaterCfg.factory.watts;
      (w 3 = 180 ∧ w 5 = 270) ∧ (b f 179 0).filterGranted < w 3 ∧ ((b f 180 90).filterGranted = w 5) ∧
      (w 3 ≤ (b f 180 89).filterGranted ∧ (b f 180 89).filterGranted < w 5) ∧
      (∃ x ∈ ({ f with limit := some ⟨5, .lock⟩ } : Filter).limit, x.origin = .lock ∧ w x.step = 270) ∧
      (∃ x ∈ ({ f with limit := some ⟨6, .search⟩ } : Filter).limit, x.origin = .search ∧ 270 < w x.step) ∧
      (∃ r, ({ f with state := .searching, search := some ⟨3, 5, .raising, some 3, some (-1), 0, 1, none⟩ } : Filter).search =
        some r ∧ r.phase = .raising ∧ w r.candidate = 270 ∧ r.bestFom = some (-1))) :=
  ⟨⟨rfl, rfl, rfl⟩, by decide, by decide +kernel, by decide +kernel, by decide +kernel, by decide +kernel,
    ⟨_, rfl, by decide +kernel⟩, ⟨_, rfl, by decide +kernel⟩, _, rfl, by decide +kernel⟩

/-- Grants at the minimum step's watts and 1 W below, to FAULT (NO_POWER) with the level low and not, and to BACKWASH. -/
theorem meets_GatesOpenCountAndClose_grants :
    let b := fun (st : FilterState) (low : Bool) (a : Nat) => ({ State.reset.toBench with
      water := { State.reset.water with starved := low, filter := { Filter.start with state := st } },
      power := { State.reset.power with
        loads := tset State.reset.power.loads filterLoad ⟨180, 0, a, 0, false⟩ } } : Bench)
    (b (.fault .noPower) true 180).water.cfg.watts (b (.fault .noPower) true 180).water.cfg.minStep = 180 ∧
      ((b (.fault .noPower) true 180).load filterLoad).grantA = 180 ∧ (b (.fault .noPower) true 180).water.starved = true ∧
      (b (.fault .noPower) false 180).water.starved = false ∧
      ((b (.fault .noPower) false 179).load filterLoad).grantA < 180 ∧ (b .backwash false 180).filterGranted = 180 ∧
      (b .backwash false 179).filterGranted < 180 ∧
      (b .backwash false 179).water.causes ≠ ⟨false, false, (b .backwash false 179).power.fnTripped .fountainPump⟩ := by
  decide +kernel

theorem meets_FigureOfMeritFormed : FilterCfg.factory.merit = .both ∧
    ({ FilterCfg.factory with merit := .flow } : FilterCfg).merit = .flow ∧
    ({ FilterCfg.factory with merit := .pressure } : FilterCfg).merit = .pressure := ⟨rfl, rfl, rfl⟩

/-! ### The show -/

/-- Reset, or RUN, with the show in a state. -/
def showing (m : Mode) (u : ShowUnit) : State := { State.reset with mode := m, shows := u }

/-- The show at start, in a state with steps and a scene. -/
def stage (e : EngineState) (l : List ShowStep) (x : Option Scene) : ShowUnit :=
  { ShowUnit.start ShowCfg.factory true with engine := e, steps := l, scene := x }

/-- RUN, with a WAIT run out before steps at offset 2 of a scene that owns circuit 1; its mark, its loop counter and
the stack as given. -/
def playing (l : List ShowStep) (mark loop : Option Nat) (stack : List ShowContext) : State :=
  showing .run { stage .running (.scene [0] :: .wait 50 :: l) (some ⟨2, some 0, mark, loop⟩) with
    ctx := { ShowContext.start with owned := [⟨0, Ramped.zero⟩] }, stack := stack }

/-- A show that owns one circuit and no other. -/
theorem meets_ModeSetupRecallsAndResets_owned :
    let s := showing .run { ShowUnit.start ShowCfg.factory true with
      ctx := { ShowContext.start with owned := [⟨0, Ramped.zero⟩] } }
    s.takes (.modeSetup (.fields ())) ∧ s.mode = .run ∧ s.ground.grid.wf = true ∧
      (∃ o ∈ s.shows.ctx.owned, o.circuit = 0) ∧ ∀ o ∈ s.shows.ctx.owned, o.circuit ≠ 1 :=
  ⟨State.takes_both _ rfl rfl rfl rfl, rfl, rfl, by decide, by decide⟩

/-- An END before a scene that keeps circuit 1 and takes circuit 2 from LU, and before one that leaves circuit 1. -/
theorem meets_ShowTimePasses_owned :
    let s := fun l => playing (.sceneEnd :: l) none none []
    (∀ l, (s l).shows.engine = .running ∧ (s l).shows.steps[2]? = some .sceneEnd ∧
      (s l).shows.ctx.owned.find? (fun p => p.circuit = 0) = some ⟨0, Ramped.zero⟩ ∧
      (∀ p ∈ (s l).shows.ctx.owned, p.circuit ≠ 1)) ∧
    [0, 1].contains (0 : Circuit) = true ∧ [1].contains (0 : Circuit) = false ∧
    (s [.scene [0, 1], .wait 50, .sceneEnd]).shows.steps.drop 3 = .scene [0, 1] :: .wait 50 :: [.sceneEnd] ∧
    .sceneEnd ∈ ([.sceneEnd] : List ShowStep).take 63 :=
  ⟨fun _ => ⟨rfl, rfl, rfl, fun p h => (List.mem_singleton.mp h : p = ⟨0, Ramped.zero⟩) ▸ by decide⟩, by decide⟩

theorem meets_ShowSettingsAndSteps : (∀ q, State.reset.takes (.showSet (.fields q))) ∧
    (∀ m u l, (showing m u).takes (.showAppend (.fields l)) ∧ (showing m u).shows = u) ∧
    max 1 (min 600 599) ≤ min 599 600 ∧ min 599 599 < max 1 (min 600 601) ∧
    (24 < (List.replicate 25 ShowStep.save).length ∧ ShowStep.unknown 0 ∈ [ShowStep.unknown 0]) ∧
    ([ShowStep.save] ≠ [] ∧ [ShowStep.save].length ≤ 24 ∧ ∀ k, ShowStep.unknown k ∉ [ShowStep.save]) ∧
    512 - (stage .paused (List.replicate 512 .save) none).steps.length < 1 ∧
    1 ≤ 512 - (stage .running (List.replicate 63 .save) none).steps.length ∧
    (stage .running (List.replicate 63 .save) none).steps.length + 1 < 65 ∧
    ShowStep.sceneEnd ∉ (stage .running (List.replicate 63 .save) none).steps ++ [.save] :=
  ⟨fun _ => State.takes_config _ rfl rfl rfl rfl rfl rfl, fun _ _ _ => ⟨State.takes_both _ rfl rfl rfl rfl, rfl⟩, by decide,
    by decide, by decide, ⟨by decide, by decide, fun k h => by simp at h⟩, by decide +kernel, by decide +kernel,
    by decide +kernel, by decide +kernel⟩

/-- Rings that an append completes into a scene, fills without an END, or gives a head that is no SCENE; a nozzle above
its splash threshold with its mark held, granted and withheld. -/
theorem meets_ShowSettingsAndSteps_scenes :
    (let s := fun l => showing .run (stage .running l none);
      (∀ l q, (s l).takes (.showAppend (.fields q)) ∧ (s l).shows.engine = .running ∧ (s l).shows.scene = none ∧
        (s l).shows.steps = l) ∧
      ([.scene [0]] ++ [.wait 500, .sceneEnd] = ShowStep.scene [0] :: .wait 500 :: [.sceneEnd] ∧
        .sceneEnd ∈ ([.sceneEnd] : List ShowStep).take 63) ∧
      (65 ≤ (List.replicate 64 ShowStep.save ++ [ShowStep.save]).length ∧
        .sceneEnd ∉ (List.replicate 64 ShowStep.save ++ [ShowStep.save]).take 65) ∧
      ([.save] ++ [.sceneEnd] = ShowStep.save :: [.sceneEnd] ∧ (∀ set, ShowStep.save ≠ .scene set) ∧
        .sceneEnd ∈ ([.save, .sceneEnd] : List ShowStep).take 65)) ∧
    (windFactorOf ShowCfg.factory 30 = 1000 ∧ ShowCfg.factory.calm = 30 ∧ ShowCfg.factory.cutoff = 100) ∧
    (let g := fun (claim : Option Slot) (held : Bool) => (lawn ⟨.absent, .absent, .absent, .absent⟩ claim).ground.zones.map
        (fun z => { z with cfg := { z.cfg with splash := if z.cfg.kind = .lawn then some Nozzle.n1 else none },
                           splashMarks := if held then ⟨.held, .absent, .absent, .absent⟩ else z.splashMarks });
      let m := fun claim held => { (lawn ⟨.absent, .absent, .absent, .absent⟩ claim).ground with zones := g claim held };
      (m none false).splashGranted .n1 = true ∧ (m (some .s0) false).splashGranted .n1 = false ∧
        ((m none true).zone 0).mark (.nozzle .n1) = .held ∧ ((m none false).zone 0).cfg.splash = some .n1 ∧
        nget ShowCfg.factory.threshold .n1 < 601 * 1000 / 1000 ∧ 600 * 1000 / 1000 ≤ nget ShowCfg.factory.threshold .n1) :=
  ⟨⟨fun _ _ => ⟨State.takes_both _ rfl rfl rfl rfl, rfl, rfl, rfl⟩, by decide, by decide, rfl, nofun, by decide⟩, by decide,
    by decide +kernel⟩

theorem meets_ShowPlayedByState (u : ShowUnit) :
    ((showing .run u).takes (.showPause (.fields ())) ∧ (showing .run u).takes (.showResume (.fields ())) ∧
      (showing .run u).takes (.showStart (.fields ())) ∧ (showing .run u).takes (.showReset (.fields ())) ∧
      (showing .run u).shows = u) ∧
    (stage .paused [] (some ⟨1, none, none, none⟩)).scene.isSome = true ∧
    (∃ set ms rest, (stage .idle [.scene [11], .wait 600001, .sceneEnd] none).steps = .scene set :: .wait ms :: rest ∧
      .sceneEnd ∈ rest.take 63) ∧
    (∃ x rest, (stage .idle [.mark, .sceneEnd] none).steps = x :: rest ∧ (∀ set, x ≠ .scene set) ∧
      .sceneEnd ∈ (stage .idle [.mark, .sceneEnd] none).steps) ∧
    .sceneEnd ∉ (stage .idle [] none).steps :=
  ⟨⟨State.takes_both _ rfl rfl rfl rfl, State.takes_both _ rfl rfl rfl rfl, State.takes_runOnly _ rfl rfl rfl rfl rfl,
      State.takes_both _ rfl rfl rfl rfl, rfl⟩, rfl, ⟨[11], 600001, [.sceneEnd], rfl, by decide⟩,
    ⟨.mark, [.sceneEnd], rfl, nofun, by decide⟩, by decide⟩

/-- What a paused or an idle engine finds at the boundary. -/
theorem meets_ShowPlayedByState_heads :
    (∀ e l, (stage e l none).engine = e ∧ (stage e l none).steps = l ∧ (stage e l none).scene = none) ∧
    (∃ set ms rest, ([.scene [11], .wait 49, .sceneEnd] : List ShowStep) = .scene set :: .wait ms :: rest ∧
      .sceneEnd ∈ rest.take 63) ∧
    (65 ≤ (List.replicate 65 ShowStep.save).length ∧ .sceneEnd ∉ (List.replicate 65 ShowStep.save).take 65) ∧
    ((∀ set, ShowStep.save ≠ .scene set) ∧ .sceneEnd ∈ (ShowStep.save :: [.sceneEnd]).take 65) ∧
    (∃ rest : List ShowStep, .sceneEnd ∈ ShowStep.scene [] :: rest ∧ .sceneEnd ∉ rest.take 64) :=
  ⟨fun _ _ => ⟨rfl, rfl, rfl⟩, ⟨_, _, _, rfl, by decide⟩, by decide, ⟨nofun, by decide⟩,
    List.replicate 64 .save ++ [.sceneEnd], by decide, by decide⟩

theorem meets_ShowTimePasses :
    (∃ (u : ShowUnit) (n : Nozzle), u.engine = .idle ∧ (nget u.ctx.nozzles n).ramp.isSome = true) ∧
    (State.reset.shows.engine = .idle ∧ ∀ n, (nget State.reset.shows.ctx.nozzles n).ramp = none) ∧
    (∃ (r : Ramped) (p : Ramp), r.ramp = some p ∧ p.done + 1 < p.ticks) ∧
    (∃ (r : Ramped) (p : Ramp), r.ramp = some p ∧ p.ticks ≤ p.done + 1) ∧
    (∃ x ms, (stage .running [.scene [], .wait 50, .wait 49] (some ⟨2, some 0, none, none⟩)).scene = some x ∧
      x.wait = some 0 ∧ (stage .running [.scene [], .wait 50, .wait 49] (some ⟨2, some 0, none, none⟩)).steps[x.next]? =
        some (.wait ms)) ∧
    State.reset.shows.scene = none ∧ State.reset.silentFor .wind 60 = false ∧
    (later 60 (heard 39 (fresh .wind) FieldRx.idle)).silentFor .wind 60 = false ∧
    (later 61 (heard 39 (fresh .wind) FieldRx.idle)).silentFor .wind 60 = true ∧
    (later 61 (heard 39 (fresh .wind) FieldRx.idle)).shows.windSilent = false :=
  ⟨⟨{ ShowUnit.start ShowCfg.factory true with
      ctx := { ShowContext.start with nozzles := ⟨⟨0, 1000, some ⟨0, 20, 0⟩⟩, Ramped.zero, Ramped.zero, Ramped.zero⟩ } }, .n1,
      rfl, rfl⟩, ⟨rfl, fun n => by cases n <;> rfl⟩, ⟨⟨0, 1000, some ⟨0, 3, 1⟩⟩, _, rfl, by decide⟩,
    ⟨⟨666, 1000, some ⟨0, 3, 2⟩⟩, _, rfl, by decide⟩, ⟨_, 49, rfl, rfl, rfl⟩, rfl, by decide +kernel, by decide +kernel,
    by decide +kernel, rfl⟩

/-- Every kind of step behind a WAIT that has run out, those that fail, and what may stand behind an END. -/
theorem meets_ShowTimePasses_steps :
    (∀ l m k c, (playing l m k c).shows.engine = .running ∧ (playing l m k c).shows.scene = some ⟨2, some 0, m, k⟩ ∧
      (playing l m k c).shows.steps = .scene [0] :: .wait 50 :: l ∧ (playing l m k c).shows.stack = c ∧
      (playing l m k c).shows.ctx.owned = [⟨0, Ramped.zero⟩]) ∧
    (∀ step ms l m k c, (playing (step :: .wait ms :: l) m k c).shows.steps[2]? = some step ∧
      (playing (step :: .wait ms :: l) m k c).shows.steps[3]? = some (.wait ms) ∧
      (playing (step :: .wait ms :: l) m k c).shows.steps[1]? = some (.wait 50)) ∧
    (nozzleOf? 1 = some .n1 ∧ nozzleOf? 4 = some .n4 ∧ nozzleOf? 0 = none ∧ nozzleOf? 5 = none) ∧
    ((∃ o ∈ [Owned.mk 0 Ramped.zero], o.circuit.val + 1 = 1) ∧ ∀ o ∈ [Owned.mk 0 Ramped.zero], o.circuit.val + 1 ≠ 2) ∧
    ((List.replicate 3 ShowContext.start).length < 4 ∧ 4 ≤ (List.replicate 4 ShowContext.start).length) ∧
    (0 < (some 1).getD (max 1 (min 255 0)) ∧ 0 < (none : Option Nat).getD (max 1 (min 255 0))) ∧
    (∀ a b m k c, (playing [.repeatLoop a, .repeatLoop b] m k c).shows.steps[2 + 1]? = some (.repeatLoop b)) ∧
    (let rest := fun l => ShowStep.scene [0] :: .wait 50 :: .sceneEnd :: l;
      (∀ l, (rest l).drop (2 + 1) = l) ∧
      ((List.replicate 64 ShowStep.save).length < 65 ∧ .sceneEnd ∉ List.replicate 64 ShowStep.save) ∧
      .sceneEnd ∈ ([.sceneEnd] : List ShowStep).take 63 ∧ 65 ≤ (List.replicate 65 ShowStep.mark).length ∧
      .sceneEnd ∉ (List.replicate 65 ShowStep.mark).take 65 ∧ (∀ set, ShowStep.mark ≠ .scene set)) :=
  ⟨fun _ _ _ _ => ⟨rfl, rfl, rfl, rfl, rfl⟩, fun _ _ _ _ _ _ => ⟨rfl, rfl, rfl⟩, by decide, by decide, by decide, by decide,
    fun _ _ _ _ _ => rfl, fun _ => rfl, by decide, by decide, by decide, by decide, nofun⟩

/-- Ticks that compute the heights: of an idle show, and of a running one in the midst of a WAIT and at its end. -/
theorem meets_ShowTimePasses_heights :
    let s := fun n => showing .run { stage .running (.scene [0] :: .wait 50 :: []) (some ⟨2, some n, none, none⟩) with
      ctx := { ShowContext.start with owned := [⟨0, Ramped.zero⟩] } }
    (∀ n, ((s n).load fountainLoad).asked = false ∧ (s n).shows.engine = .running) ∧
      (∀ x, (s 2).shows.scene = some x → ¬ (x.wait = some 0 ∨ x.wait = some 1)) ∧
      (State.reset.load fountainLoad).asked = false ∧ State.reset.shows.engine ≠ .running :=
  ⟨fun _ => ⟨(by decide +kernel : (State.reset.load fountainLoad).asked = false), rfl⟩,
    fun _ h => Option.some.inj h ▸ (by decide), by decide +kernel, by decide⟩

/-! ### The lights and the power -/

/-- Reset with a lamp on circuit 1. -/
def lit (x : LampCircuit) : State :=
  { State.reset with lights := { State.reset.lights with circuits := tset State.reset.lights.circuits 0 x } }

theorem meets_LightSettingsWritten :
    ((∀ q, State.reset.takes (.lightSet (.fields q))) ∧ (∀ q, State.reset.takes (.lightScheduleSet (.fields q))) ∧
      (∀ q, State.reset.takes (.motionMapSet (.fields q))) ∧ (∀ q, State.reset.takes (.lightManual (.fields q)))) ∧
    (max 100 (min 20000 100) ≤ max 1 (min 5000 100) ∧ max 1 (min 5000 0) < max 100 (min 20000 20001)) ∧
    (∀ j x, j ≠ (7 : Fin 8) → (some 39 : Option SourceId) = some x → (tget State.reset.lights.motionMap j).source ≠ some x) ∧
    (∃ s : State, s.takes (.motionMapSet (.fields ⟨1, some 40, []⟩)) ∧
      (tget s.lights.motionMap 7).source = some 39) :=
  ⟨⟨fun _ => State.takes_config _ rfl rfl rfl rfl rfl rfl, fun _ => State.takes_config _ rfl rfl rfl rfl rfl rfl,
      fun _ => State.takes_config _ rfl rfl rfl rfl rfl rfl, fun _ => State.takes_both _ rfl rfl rfl rfl⟩, by decide,
    fun j _ _ _ => by
      have : ∀ j, (tget State.reset.lights.motionMap j).source = none := by decide
      rw [this j]; nofun,
    { State.reset with lights := { State.reset.lights with
      motionMap := tset State.reset.lights.motionMap 7 ⟨some 39, []⟩ } }, State.takes_config _ rfl rfl rfl rfl rfl rfl, rfl⟩

/-- The late window on both sides of noon (R153). -/
theorem meets_LightSettingsWritten_late : [43199, 43200].map (lateAt 720) = [true, true] ∧
    [82799, 82800, 0, 43199, 43200].map (lateAt 1380) = [false, true, true, true, false] ∧
    [43139, 43140, 43199, 43200].map (lateAt 719) = [false, true, true, false] := by decide

theorem meets_LampFaultsClearAndOpen (x : LampCircuit) :
    (∀ n, (lit x).takes (.lightClearFault (.fields n))) ∧ (lit x).lamp 0 = x ∧
    (State.reset.lamp 11).state = .off ∧ (State.reset.lamp 11).openCount < 20 ∧
    (lit { LampCircuit.start CircuitCfg.factory with state := .faultShort .short }).power.fnTripped (.light 0) = false ∧
    (∃ s : State, ∃ y, (s.lamp 0).state = .faultShort y ∧ s.power.fnTripped (.light 0) = true ∧ (s.lamp 1).state = .off) ∧
    (∃ s : State, (s.lamp 0).state = .off ∧ (s.lamp 0).openCount = 20 ∧ s.power.fnCurrent (.light 0) = some 0) :=
  ⟨fun _ => State.takes_both _ rfl rfl rfl rfl, rfl, by decide +kernel, by decide +kernel, by decide +kernel,
    ⟨{ withChannel { Channel.start ⟨.pwm, some (.light 0), 0, 10000⟩ with state := .tripped } with
        lights := (lit { LampCircuit.start CircuitCfg.factory with state := .faultShort .trip }).lights }, .trip,
      by decide +kernel⟩,
    ⟨{ withChannel (Channel.start ⟨.pwm, some (.light 0), 0, 10000⟩) with
        lights := (lit { LampCircuit.start CircuitCfg.factory with openCount := 20 }).lights }, by decide +kernel⟩⟩

/-- A lamp on a channel, above and at its cap, at the short limit and above it, under the open threshold and at it. -/
theorem meets_LampFaultsClearAndOpen_lamps :
    let lamp := fun (st : LampState) (out : Nat) =>
      { LampCircuit.start { CircuitCfg.factory with inUse := true } with state := st, output := out, schedule := 1000 }
    let b := fun (st : LampState) (out grant current : Nat) =>
      { (withChannel { Channel.start ⟨.pwm, some (.light 0), 0, 10000⟩ with current := current }).toBench with
        lights := (lit (lamp st out)).lights,
        power := { (withChannel { Channel.start ⟨.pwm, some (.light 0), 0, 10000⟩ with current := current }).power with
          loads := tset State.reset.power.loads (lightLoad 0) ⟨0, 50, 0, grant, false⟩ } }
    (b .lit 500 25 0).lampCap 0 = 500 ∧ (b .lit 501 25 0).lampCap 0 < 501 ∧
      ((b .off 0 50 0).lamp 0).target .day = 1000 ∧ (b .lit 100 50 4001).power.fnCurrent (.light 0) = some 4001 ∧
      ((b .lit 100 50 4001).lamp 0).cfg.shortLimit = 4000 ∧ ((b .faultOpen 100 50 20).lamp 0).cfg.openThreshold = 20 ∧
      (b .faultOpen 100 50 20).power.fnCurrent (.light 0) = some 20 ∧ LampState.isShort (.faultShort .trip) = true ∧
      ((b (.faultShort .short) 0 0 0).lamp 0).state ≠ .faultShort .trip ∧
      (b .lit 0 0 0).power.channelOf (.light 0) = some 0 := by decide +kernel

/-- A tick of a lamp on channel 1, at its short limit and above it, with no channel above its trip current; a FAULT_OPEN
that ends; a circuit without a channel. -/
theorem meets_LampFaultsClearAndOpen_tick :
    let s := fun (st : LampState) => ({ withChannel (Channel.start ⟨.pwm, some (.light 0), 0, 10000⟩) with
      lights := (lit { LampCircuit.start { CircuitCfg.factory with inUse := true } with state := st, output := 100 }).lights } :
        State)
    let volts := fun (v : Nat) => tset (Vector.replicate 24 0) (0 : ChannelId) v
    let cur := fun (v : Nat) (c : ChannelId) =>
      if 3000000 ≤ tget (volts v) c then 30000 else 30000 * tget (volts v) c / 3000000
    let b := fun (st : LampState) (v : Nat) => ({ (s st).toBench with power :=
      { (s st).power with channels := Vector.ofFn (fun c => { (s st).channel c with current := cur v c }) } } : Bench)
    (cur 400000 0 = 4000 ∧ cur 400100 0 = 4001 ∧ ((s .lit).lamp 0).cfg.shortLimit = 4000) ∧
      (∀ c, ((s .lit).channel c).state ≠ .tripped ∧ cur 400100 c ≤ ((s .lit).channel c).cfg.tripCurrent) ∧
      (s .lit).power.realloc = false ∧ (s .lit).power.channelOf (.light 0) = some 0 ∧
      (s .lit).power.channelOf (.light 1) = none ∧
      (∀ c, (b .lit 400100).channel c = { (s .lit).channel c with current := cur 400100 c }) ∧
      (∀ c, (((((b .lit 400000).fadeLamp c).judgeLamp c).lamp c).state.isShort = ((s .lit).lamp c).state.isShort)) ∧
      ((s .faultOpen).lamp 0).state = .faultOpen ∧ ((s .faultOpen).lamp 0).cfg.openThreshold ≤ cur 400000 0 := by
  decide +kernel

theorem meets_LightTimersEnd :
    (let s := fun n => later n { State.reset with lights := { State.reset.lights with pendingDusk := some ⟨.night, 120999⟩ } };
      ∃ p, (s 120).lights.pendingDusk = some p ∧ p.state ≠ (s 120).lights.dusk ∧ p.expiry / 1000 ≤ (s 120).time.secs ∧
        (s 119).time.secs < p.expiry / 1000) ∧ State.reset.lights.pendingDusk = none ∧
    (let s := fun n => later n (heard 39 (fresh .dusk) FieldRx.idle);
      (s 601).silentFor .dusk 600 = true ∧ (s 601).lights.onset = false ∧ (s 600).silentFor .dusk 600 = false) ∧
    (let s := fun n => later n (lit { LampCircuit.start CircuitCfg.factory with
        motionExpiry := some 90999, escorts := ⟨Contribution.zero, Contribution.zero, ⟨none, some ⟨1000, 90999⟩⟩⟩ });
      (∃ h, ((s 90).lamp 0).motionExpiry = some 90999 ∧ (((s 90).lamp 0).escorts.get .s2).held = some h ∧
        h.expiry = 90999 ∧ 90999 / 1000 ≤ (s 90).time.secs) ∧ (s 89).time.secs < 90999 / 1000) ∧
    (State.reset.lamp 0).motionExpiry = none :=
  ⟨⟨_, rfl, by decide +kernel⟩, rfl, by decide +kernel, ⟨⟨_, rfl, rfl, rfl, by decide⟩, by decide⟩, by decide +kernel⟩

/-- Escorts by night: a mower in a zone with a circuit, and one that is at its dock. -/
theorem meets_LightTimersEnd_escorts :
    let g := fun (x : MowerState) => { (row (ctx x) .s0 [] (some ⟨1, 0⟩) none).toGarden with
      lights := { (lit { LampCircuit.start CircuitCfg.factory with escorts := ⟨⟨some 400, none⟩, Contribution.zero,
        Contribution.zero⟩ }).lights with
        dusk := .night },
      position := { State.reset.position with
        tracks := ⟨{ Track.empty with cell := some ⟨1, 0⟩, zone := some 0 }, Track.empty, Track.empty⟩ } }
    (g .mowing).lights.dusk = .night ∧ ((g .mowing).mower .s0).state.supervised = true ∧
      ((g .mowing).track .s0).cell.isSome = true ∧ ((g .mowing).track .s0).zone = some 0 ∧
      ((g .docked).mower .s0).state = .docked ∧ (((g .docked).lamp 0).escorts.get .s0).present = some 400 ∧
      (g .docked).escortLevel .s0 0 = none ∧ State.reset.lights.dusk ≠ .night := by decide +kernel

/-- Reset with another supply. -/
def supplied (ceff overdraw restore : Nat) : State :=
  { State.reset with power := { State.reset.power with ceff := ceff, overdraw := overdraw, restore := restore } }

theorem meets_SupplySetSampledAndStepped : (∀ q, State.reset.takes (.supplySet (.fields q))) ∧
    (1200 * (1000 - 50) / 1000 < (if 3000000 ≤ 3000000 then 4000 else 0)) ∧
    (supplied 1200 0 0).power.cfg.capacity ≤ (supplied 1200 0 0).power.ceff ∧
    (supplied 1199 0 599).power.ceff < (supplied 1199 0 599).power.cfg.capacity ∧
    5 ≤ (supplied 600 5 0).power.overdraw ∧
    max ((supplied 600 5 0).power.cfg.capacity / 2) ((supplied 600 5 0).power.ceff - (supplied 600 5 0).power.cfg.capacity / 10) =
      (supplied 600 5 0).power.ceff ∧
    (supplied 1200 4 0).power.overdraw < 5 ∧ 600 ≤ (supplied 1199 0 600).power.restore ∧
    (supplied 1199 0 599).power.restore < 600 :=
  ⟨fun _ => State.takes_config _ rfl rfl rfl rfl rfl rfl, by decide, by decide, by decide, by decide, by decide, by decide,
    by decide, by decide⟩

theorem meets_AllocationSharesTheSupply : [30, 100, 60].sum ≤ 190 ∧ 189 < [30, 100, 60].sum ∧
    (∃ a : Bench, a = State.reset.toBench.allocate) ∧
    (let b := fun n grant => { (ready true n).toBench with power := { State.reset.power with
        loads := tset State.reset.power.loads (chargerLoad .s0) ⟨120, 0, grant, 0, false⟩ } };
      ((b 99 24).slot .s0).ctx.battery = some 99 ∧ ((b 99 24).slot .s0).ctx.state = .docked ∧
      ((b 99 24).slot .s0).cfg.ratedWatts ≤ 5 * ((b 99 24).load (chargerLoad .s0)).grantA ∧
      5 * ((b 99 23).load (chargerLoad .s0)).grantA < ((b 99 23).slot .s0).cfg.ratedWatts ∧
      ((b 100 24).slot .s0).ctx.battery = some 100 ∧ ((b 99 24).slot .s1).ctx.state = .absent) :=
  ⟨by decide, by decide, ⟨_, rfl⟩, by decide +kernel⟩

/-- A function on no channel, and one on a single channel, tripped or not. -/
theorem meets_AllocationSharesTheSupply_tripped :
    (∀ c, (State.reset.channel c).cfg.function ≠ some .filterPump) ∧
    ∀ st ∈ [ChannelState.idle, .tripped],
      let s := withChannel { Channel.start ⟨.proportional, some .filterPump, 0, 10000⟩ with state := st }
      (s.channel 0).cfg.function = some .filterPump ∧ (s.channel 0).state = st ∧
        ∀ d, d ≠ 0 → (s.channel d).cfg.function ≠ some .filterPump := by decide +kernel

theorem meets_ChannelsBoundAndSwitched : (∀ q, State.reset.takes (.channelSet (.fields q))) ∧
    (State.reset.channel 23).state ≠ .tripped ∧
    (∀ d x, d ≠ (23 : ChannelId) → some (Fn.filterPump) = some x → (State.reset.channel d).cfg.function ≠ some x) ∧
    (State.reset.channel 23).cfg.function = none ∧ (State.reset.channel 0).holdExpiry = none ∧
    (let s := fun n => later n (withChannel { Channel.start ⟨.relay, some .topupValve, 60, 10000⟩ with
        requested := 1000, holdExpiry := some 60999 });
      (s 60).takes (.channelSet (.fields ⟨2, .named .relay, some (.named .topupValve), none, 100⟩)) ∧
      ((s 60).channel 0).cfg.function = some .topupValve ∧ (∀ e, e < (0 : ChannelId) → e ≠ 1 →
        ((s 60).channel e).cfg.function ≠ some .topupValve) ∧ ((s 60).channel 0).holdExpiry = some 60999 ∧
      ((s 60).channel 0).state ≠ .tripped ∧ 60999 / 1000 ≤ (s 60).time.secs ∧ (s 59).time.secs < 60999 / 1000) ∧
    (let s := withChannel { Channel.start ⟨.relay, none, 0, 10000⟩ with state := .tripped };
      s.takes (.channelSet (.fields ⟨1, .named .relay, none, none, 100⟩)) ∧ (s.channel 0).state = .tripped) :=
  ⟨fun _ => State.takes_config _ rfl rfl rfl rfl rfl rfl, by decide +kernel, fun d x _ _ => by
      have : ∀ d, (State.reset.channel d).cfg.function = none := by decide
      rw [this d]; nofun,
    by decide +kernel, by decide +kernel,
    ⟨State.takes_config _ rfl rfl rfl rfl rfl rfl, rfl, fun e h => absurd h (Nat.not_lt_zero e.val), rfl, by decide +kernel⟩,
    State.takes_config _ rfl rfl rfl rfl rfl rfl, rfl⟩

/-- A channel that changes its function, DRIVING and not, to one at level 0 and to one above 0, with the switch interval run
out and not. -/
theorem meets_ChannelsBoundAndSwitched_dropped :
    let s := fun (st : ChannelState) (last : Option Nat) => ({ withChannel
        { Channel.start ⟨.relay, some .topupValve, 0, 10000⟩ with state := st, applied := 1000, lastSwitch := last } with
      time := ⟨10, 0⟩, water := { State.reset.water with filter := { Filter.start with step := 3 } } } : State)
    (s .driving none).levelOf .backwashValve = 0 ∧ (s .driving none).levelOf .filterPump = 187 ∧
      ((s .driving none).channel 0).cfg.function ≠ some .filterPump ∧ ((s .driving none).channel 0).state = .driving ∧
      (s .driving none).now = 10000 ∧ ((s .idle (some 0)).channel 0).lastSwitch = some 0 ∧ 0 + 10 * 1000 = 10000 ∧
      ((s .idle none).channel 0).state ≠ .driving ∧ 10000 < 10000 + 1 * 1000 ∧
      (∀ d, d ≠ (0 : ChannelId) → ((s .driving none).channel d).cfg.function ≠ some .filterPump) := by decide +kernel

/-- Changes of level on a RELAY and a PWM channel: without a switch, within the switch interval, at its end, and while a
switch waits. -/
theorem meets_ChannelsBoundAndSwitched_levels :
    let x := fun ty (applied requested : Nat) (last hold : Option Nat) => Channel.mk ⟨ty, none, 10, 10000⟩
      (if applied = 0 then .idle else .driving) requested applied last hold 0 1000
    ((x .pwm 1 1 (some 0) none).state ≠ .tripped ∧ 2 ≠ (x .pwm 1 1 (some 0) none).requested) ∧
      ¬ (2 = 0 ∧ (x .pwm 1 1 none none).applied ≠ 0 ∨ 2 ≠ 0 ∧ (x .pwm 1 1 none none).applied = 0) ∧
      (∃ d ∈ (x .relay 0 0 (some 5000) none).lastSwitch, d + (x .relay 0 0 (some 5000) none).cfg.interval * 1000 = 15000) ∧
      (x .relay 0 1000 (some 5000) (some 15000)).holdExpiry.isSome = true ∧
      (x .relay 0 0 none none).lastSwitch = none := by decide

theorem meets_ChannelsTripAndReset : (∀ n, State.reset.takes (.channelReset (.fields n))) ∧
    (State.reset.channel 23).state ≠ .tripped ∧
    (let s := fun n => later n (withChannel { Channel.start ⟨.relay, some .topupValve, 60, 10000⟩ with
        state := .tripped, requested := 1000, lastSwitch := some 0 });
      ((s 59).takes (.channelReset (.fields 1)) ∧ (s 60).takes (.channelReset (.fields 1))) ∧
      ((s 59).channel 0).state = .tripped ∧ (∃ x ∈ ((s 59).channel 0).lastSwitch,
        (s 59).now < x + ((s 59).channel 0).cfg.interval * 1000 ∧
        x + ((s 60).channel 0).cfg.interval * 1000 ≤ (s 60).now) ∧
      ∃ t, exec (.channelReset (.fields 1)) (s 60) = .next t ∧ (t.channel 0).requested ≠ 0) :=
  ⟨fun _ => State.takes_both _ rfl rfl rfl rfl, by decide +kernel,
    ⟨State.takes_both _ rfl rfl rfl rfl, State.takes_both _ rfl rfl rfl rfl⟩, rfl, by decide +kernel, _, rfl, by decide +kernel⟩

/-- A trip of every kind of function, in a state in which its owner has something to do. -/
theorem meets_ChannelsTripAndReset_trips :
    let volts : Vector Nat 24 := tset (Vector.replicate 24 0) 0 3000000
    let s := fun f =>
      let c := withChannel (Channel.start ⟨.pwm, some f, 0, 10000⟩)
      { c with
        water := { c.water with filter := { Filter.start with state := .backwash }, causes := ⟨true, true, false⟩ },
        shows := { c.shows with dry := true },
        fleet := { c.fleet with s0 := ⟨⟨some 0, 120, 6, 80, 25⟩, { ctx .charging with battery := some 50 }, 0⟩ },
        power := { c.power with loads := tset c.power.loads (chargerLoad .s0) ⟨120, 0, 120, 0, false⟩ } }
    (∀ f ∈ [Fn.filterPump, .backwashValve, .topupValve, .fountainPump, .nozzle .n4, .charger .s0, .light 11],
      ((s f).channel 0).state ≠ .tripped ∧ (s f).power.channelOf f = some 0 ∧
      ∃ t, exec (.currentSample volts) (s f) = .next t ∧ (t.channel 0).state = .tripped) ∧
    (∀ f ∈ [Fn.filterPump], (s f).water.filter.state = .backwash ∧ (s f).shows.dry = (s f).withheld ∧
      ((s f).load fountainLoad).asked = false ∧ ((s f).mower .s0).state = .charging ∧
      ((s f).mower .s0).battery.isSome = true ∧ ((s f).load (chargerLoad .s0)).grantA ≠ 0 ∧
      ((s f).slot .s0).cfg.ratedWatts ≠ 0 ∧ ((s f).lamp 11).state ≠ .faultShort .trip ∧
      (s f).water.filter.state ≠ .fault .channelTrip) := by
  refine ⟨fun f h => ?_, by decide +kernel⟩
  fin_cases h <;> exact ⟨by decide +kernel, by decide +kernel, _, rfl, by decide +kernel⟩

/-- Resets of a channel whose owner waits for it, with the filter's other channel tripped or not and the pond starved or not,
and with each demand for water. -/
theorem meets_ChannelsTripAndReset_resets :
    let s := fun f other starved demand used ask =>
      let c := withChannel { Channel.start ⟨.relay, some f, 0, 10000⟩ with state := .tripped }
      { c with
        water := { c.water with
          filter := { Filter.start with state := .fault .channelTrip }, starved := starved, topup := .tripped,
          demand := demand, capCount := used },
        power := { c.power with
          channels := tset c.power.channels 1 { Channel.start ⟨.relay, some .backwashValve, 0, 10000⟩ with state := other },
          loads := tset c.power.loads topupLoad ⟨ask, 0, 0, 0, false⟩ } }
    (∀ f other starved demand used ask, (s f other starved demand used ask).takes (.channelReset (.fields 1)) ∧
      ((s f other starved demand used ask).channel 0).state = .tripped ∧
      (s f other starved demand used ask).water.filter.state = .fault .channelTrip ∧
      (s f other starved demand used ask).water.topup = .tripped ∧
      (s f other starved demand used ask).water.starved = starved ∧
      (s f other starved demand used ask).water.demand = demand ∧
      (s f other starved demand used ask).water.capCount = used) ∧
    (∀ f ∈ [Fn.filterPump, .backwashValve, .topupValve, .fountainPump],
      (s f .idle false false 0 0).power.channelOf f = some 0) ∧
    (∃ t, exec (.channelReset (.fields 1)) (s .filterPump .tripped false false 0 0) = .next t ∧
      t.power.fnTripped .backwashValve = true) ∧
    (∃ t, exec (.channelReset (.fields 1)) (s .filterPump .idle false false 0 0) = .next t ∧
      t.power.fnTripped .filterPump = false ∧ t.power.fnTripped .backwashValve = false) ∧
    (let w := (s .topupValve .idle true true 1800 0).water; w.cfg.capMinutes * 60 ≤ w.capCount) ∧
    (let x := s .topupValve .idle true true 1799 0; x.water.capCount < x.water.cfg.capMinutes * 60 ∧
      (x.load topupLoad).askA ≠ x.water.cfg.topupWatts) :=
  ⟨fun _ _ _ _ _ _ => ⟨State.takes_both _ rfl rfl rfl rfl, rfl, rfl, rfl, rfl, rfl, rfl⟩, by decide +kernel,
    ⟨_, rfl, by decide +kernel⟩, ⟨_, rfl, by decide +kernel⟩, by decide +kernel, by decide +kernel⟩
end

section
/-! ## The duplicate window of a source (R26, R27)

One equation for each way in which a frame can meet the window; O34 is put together from them. -/

namespace Sys2Proof.Machine

@[simp] theorem Window.take_true (w : Window) (s : Nat) : w.take s true = w.takeFresh s := rfl

@[simp] theorem Window.take_false (w : Window) (s : Nat) : w.take s false = w.takePlain s := rfl

section Fresh
variable {w : Window} {s : Nat}

theorem Window.takeFresh_copy (hf : w.fresh = some s) (ha : s ∈ w.accepted) : w.takeFresh s = (.duplicate, w) :=
  if_pos ⟨hf, List.contains_iff_mem.mpr ha⟩

theorem Window.takeFresh_reset (h : ¬ (w.fresh = some s ∧ s ∈ w.accepted)) :
    w.takeFresh s = (.good, ⟨some s, [s], some s⟩) :=
  if_neg fun hc => h ⟨hc.1, List.contains_iff_mem.mp hc.2⟩

end Fresh

theorem Window.takePlain_first {w : Window} (s : Nat) (h : w.newest = none) :
    w.takePlain s = (.good, ⟨some s, [s], none⟩) := by
  simp [Window.takePlain, h]

section Plain
variable {w : Window} {s n : Nat}

/-- The window that a newer sequence leaves: the set keeps what lies at most 31 behind it, and the fresh mark ends. -/
theorem Window.takePlain_newer (hn : w.newest = some n) (hd : 1 ≤ forward n s ∧ forward n s ≤ 32767) :
    w.takePlain s = (.good, ⟨some s, w.accepted.filter (fun t => forward t s ≤ 31) ++ [s], none⟩) := by
  simp only [Window.takePlain, hn, if_pos hd]

theorem Window.takePlain_duplicate (hn : w.newest = some n) (hd : ¬ (1 ≤ forward n s ∧ forward n s ≤ 32767))
    (hb : forward s n ≤ 31) (ha : s ∈ w.accepted) : w.takePlain s = (.duplicate, w) := by
  simp only [Window.takePlain, hn, if_neg hd, if_pos hb, if_pos (List.contains_iff_mem.mpr ha)]

theorem Window.takePlain_late (hn : w.newest = some n) (hd : ¬ (1 ≤ forward n s ∧ forward n s ≤ 32767))
    (hb : forward s n ≤ 31) (ha : s ∉ w.accepted) :
    w.takePlain s = (.good, { w with accepted := w.accepted ++ [s] }) := by
  simp only [Window.takePlain, hn, if_neg hd, if_pos hb, if_neg (mt List.contains_iff_mem.mp ha)]

theorem Window.takePlain_stale (hn : w.newest = some n) (hd : ¬ (1 ≤ forward n s ∧ forward n s ≤ 32767))
    (hb : 31 < forward s n) : w.takePlain s = (.stale, w) := by
  simp only [Window.takePlain, hn, if_neg hd, if_neg (Nat.not_le.mpr hb)]

/-- The set after a newer sequence, member by member. -/
theorem Window.mem_accepted_takePlain_newer (hn : w.newest = some n) (hd : 1 ≤ forward n s ∧ forward n s ≤ 32767)
    (x : Nat) : x ∈ (w.takePlain s).2.accepted ↔ x = s ∨ (x ∈ w.accepted ∧ forward x s ≤ 31) := by
  rw [Window.takePlain_newer hn hd]
  simp [or_comm]

end Plain

/-- Settles O34. The obligation's `d` and `b` are `forward n s` and `forward s n`; each clause is the equation of the case
that its premises select. -/
theorem freshFramesResetTheWindow : Obligations.FreshFramesResetTheWindow := by
  refine ⟨fun w s => ⟨Window.takeFresh_copy, Window.takeFresh_reset, Window.takePlain_first s⟩, ?_⟩
  rintro w s n d b hn rfl rfl
  refine ⟨fun h1 h2 => ?newer, Window.takePlain_duplicate hn, Window.takePlain_late hn, Window.takePlain_stale hn⟩
  have hw := Window.takePlain_newer hn ⟨h1, h2⟩
  refine ⟨?_, ?_, ?_, Window.mem_accepted_takePlain_newer hn ⟨h1, h2⟩⟩ <;> rw [Window.take_false, hw]

end Sys2Proof.Machine
end

section
/-! ## CALIBRATE_STAKE and CAPTURE_DEADLINE (R45, R47)

CALIBRATE_STAKE is its owner's answer on the link, so each outcome is an equation of `Garden.calibrateStake`, reached by
the numbers that the request names; CAPTURE_DEADLINE is one equation for a capture that is due and one for none. -/

namespace Sys2Proof.Machine

/-! ### Records by number -/

@[simp] theorem slotOf?_slotNo (k : Slot) : slotOf? (slotNo k) = some k := by cases k <;> rfl

@[simp] theorem stakeOf?_stakeNo (k : Stake) : stakeOf? (stakeNo k) = some k := by cases k <;> rfl

theorem slotOf?_eq_none {n : Nat} (h : 2 < n) : slotOf? n = none := by
  match n, h with
  | _ + 3, _ => rfl

theorem stakeOf?_eq_none {n : Nat} (h : n = 0 ∨ 3 < n) : stakeOf? n = none := by
  match n, h with
  | 0, _ => rfl
  | _ + 4, _ => rfl

@[simp] theorem Garden.named_some {ι : Type} (g : Garden) (i : ι) (f : ι → Garden × Answer) :
    g.named (some i) f = f i := rfl

@[simp] theorem Garden.named_none {ι : Type} (g : Garden) (f : ι → Garden × Answer) :
    g.named none f = (g, .refused .noSuch []) := rfl

/-- What is refused NO_SUCH for each record is refused NO_SUCH for each number. -/
theorem Garden.named_noSuch {ι : Type} (g : Garden) (i : Option ι) (f : ι → Garden × Answer)
    (h : ∀ k, i = some k → f k = (g, .refused .noSuch [])) : g.named i f = (g, .refused .noSuch []) := by
  cases i with
  | none => rfl
  | some k => exact h k rfl

/-- A request command that is taken and acts within the garden is its owner's answer. -/
theorem State.request_of_takes {α : Type} [DecidableEq α] {s : State} {c : Instr} {kind : Nat} {r : Reader α} {a : Access}
    {x : α} (act : α → Garden → Garden × Answer) (hc : formFor c = some (formOf kind r a (.fields x))) (h : s.takes c) :
    s.request kind r a (.fields x) act = s.answer (act x s.toGarden).1 (act x s.toGarden).2 := by
  unfold State.takes at h
  rw [hc] at h
  obtain ⟨hserves, -, hallows⟩ := h
  exact s.request_takes kind r a x act hserves hallows

/-! ### CALIBRATE_STAKE (R45) -/

section CalibrateStake
variable {g : Garden} {q : CalibrateStake} {k : Stake} {m : Slot}

theorem Garden.calibrateStake_begins (hk : q.stake = stakeNo k) (hm : q.slot = slotNo m)
    (hb : (g.slot m).cfg.source.isSome = true) (hc : g.position.capture = none) :
    g.calibrateStake q = (g.beginCapture k m (min 4799 q.x) (min 3199 q.y)).tell
      [u1 q.stake, u2 (min 4799 q.x), u2 (min 3199 q.y), u1 q.slot] := by
  have hbound := Option.isSome_iff_ne_none.mp hb
  simp [Garden.calibrateStake, hk, hm, hbound, hc, clamp]

theorem Garden.calibrateStake_busy (hk : q.stake = stakeNo k) (hm : q.slot = slotNo m)
    (hb : (g.slot m).cfg.source.isSome = true) (hc : g.position.capture.isSome = true) :
    g.calibrateStake q = (g, .refused .busy []) := by
  have hbound := Option.isSome_iff_ne_none.mp hb
  simp [Garden.calibrateStake, hk, hm, hbound, hc, Garden.refuse]

theorem Garden.calibrateStake_noStake (h : q.stake = 0 ∨ 3 < q.stake) :
    g.calibrateStake q = (g, .refused .noSuch []) := by
  simp [Garden.calibrateStake, stakeOf?_eq_none h]

theorem Garden.calibrateStake_noSlot (h : 2 < q.slot) : g.calibrateStake q = (g, .refused .noSuch []) :=
  g.named_noSuch _ _ fun _ _ => by rw [slotOf?_eq_none h, Garden.named_none]

theorem Garden.calibrateStake_unbound (hm : q.slot = slotNo m) (hb : (g.slot m).cfg.source = none) :
    g.calibrateStake q = (g, .refused .noSuch []) :=
  g.named_noSuch _ _ fun _ _ => by simp [hm, hb, Garden.refuse]

end CalibrateStake

theorem exec_calibrateStake {s : State} {q : CalibrateStake} (h : s.takes (.calibrateStake (.fields q))) :
    exec (.calibrateStake (.fields q)) s =
      .next (s.answer (s.toGarden.calibrateStake q).1 (s.toGarden.calibrateStake q).2) :=
  congrArg Host.Outcome.next (State.request_of_takes Garden.calibrateStake rfl h)

/-! ### CAPTURE_DEADLINE (R47) -/

theorem Garden.capExpired_due {g : Garden} {c : Capture} (hc : g.position.capture = some c) (hd : c.deadline ≤ g.time.secs) :
    g.capExpired = (g.setCapture none).on (·.post (.calibrationFailed c.stake .timeout)) := by
  simp only [Garden.capExpired, Garden.failCapture, hc, if_pos hd]

theorem Garden.capExpired_early {g : Garden} (h : ∀ c ∈ g.position.capture, g.time.secs < c.deadline) :
    g.capExpired = g := by
  cases hc : g.position.capture with
  | none => simp only [Garden.capExpired, hc]
  | some c => simp only [Garden.capExpired, hc, if_neg (Nat.not_le.mpr (h c hc))]

theorem exec_captureDeadline (s : State) :
    exec .captureDeadline s = .next { s with toGarden := s.toGarden.capExpired } := rfl

/-- Settles O35. Each clause is the equation of the outcome that its premises select; the refusals for a stake and a slot
come before the one for a running capture, so they need nothing of it. -/
theorem captureBeginsAndTimesOut : Obligations.CaptureBeginsAndTimesOut := by
  refine ⟨fun s q k m h hk hm hb => ⟨fun hc => ?begins, fun hc => ?busy⟩, fun s q h hno => ?noSuch,
    fun s c hc hd => ?due, fun s he => ?early⟩
  case begins =>
    rw [exec_calibrateStake h, Garden.calibrateStake_begins hk hm hb hc]
    rfl
  case busy => rw [exec_calibrateStake h, Garden.calibrateStake_busy hk hm hb hc]
  case noSuch =>
    have hrefused : s.toGarden.calibrateStake q = (s.toGarden, .refused .noSuch []) := by
      obtain h0 | h3 | h2 | ⟨m, hm, hb⟩ := hno
      · exact Garden.calibrateStake_noStake (.inl h0)
      · exact Garden.calibrateStake_noStake (.inr h3)
      · exact Garden.calibrateStake_noSlot h2
      · exact Garden.calibrateStake_unbound hm hb
    rw [exec_calibrateStake h, hrefused]
  case due =>
    rw [exec_captureDeadline, Garden.capExpired_due hc hd]
    rfl
  case early => rw [exec_captureDeadline, Garden.capExpired_early he]

end Sys2Proof.Machine
end

section
/-! ## The figure of merit (R110)

One equation of `figureOfMerit` per merit type; O50 is these equations at the two margins. -/

namespace Sys2Proof.Machine

section Merit
variable {c : FilterCfg} (r : GateResult)

theorem figureOfMerit_both (h : c.merit = .both) :
    figureOfMerit c r = min (flowMargin c r) (pressureMargin c r) := by
  simp only [figureOfMerit, h]

theorem figureOfMerit_flow (h : c.merit = .flow) : figureOfMerit c r = flowMargin c r := by
  simp only [figureOfMerit, h]

theorem figureOfMerit_pressure (h : c.merit = .pressure) : figureOfMerit c r = pressureMargin c r := by
  simp only [figureOfMerit, h]

end Merit

/-- Settles O50. The obligation's `sf` and `sp` are `flowMargin c r` and `pressureMargin c r` written out; each clause is
the equation of its merit type. -/
theorem figureOfMeritFormed : Obligations.FigureOfMeritFormed := by
  intro c r sf sp hsf hsp
  have hflow : sf = flowMargin c r := hsf
  have hpressure : sp = pressureMargin c r := hsp
  rw [hflow, hpressure]
  refine ⟨fun hboth => ?both, figureOfMerit_flow r, figureOfMerit_pressure r⟩
  case both => rw [figureOfMerit_both r hboth, min_def]

end Sys2Proof.Machine
end

section
/-! ## REPORTS_FETCH, REPORT_MASK_SET and the report queue (R191, R192)

One equation for each of the two requests, and one for each way in which the queue can take a posted report. -/

namespace Sys2Proof.Machine

/-! ### The two requests -/

/-- The number that a reply carries, from 0 to 8, is that of the reports it carries. -/
theorem Reports.fields_eq (q : Reports) :
    q.fields = [u1 (min 8 q.queue.length), u1 q.lost] ++ (q.queue.take 8).map Report.field := by
  rw [Reports.fields, List.length_take]

theorem exec_reportsFetch {s : State} (h : s.takes (.reportsFetch (.fields ()))) :
    exec (.reportsFetch (.fields ())) s = .next
      (s.answer (s.toGarden.on (fun b => { b with reports := b.reports.fetched })) (.accepted s.reports.fields)) :=
  congrArg Host.Outcome.next (State.request_of_takes _ rfl h)

theorem exec_reportMaskSet {s : State} {m : Word32} (h : s.takes (.reportMaskSet (.fields m))) :
    exec (.reportMaskSet (.fields m)) s = .next
      (s.answer (s.toGarden.on (fun b => { b with reports := { b.reports with mask := takenMask m } }))
        (.accepted [unsignedField 4 (takenMask m).toNat])) :=
  congrArg Host.Outcome.next (State.request_of_takes _ rfl h)

/-! ### A posted report -/

section Post
variable {q : Reports} (w : Stamp) (r : ReportBody)

theorem Reports.add_masked (hm : q.mask.getLsbD r.code = false) : q.add w r = q := by
  obtain ⟨-, e⟩ | ⟨hon, -⟩ | ⟨hon, -⟩ := q.add_cases w r
  · exact e
  · exact absurd (hm.symm.trans hon) nofun
  · exact absurd (hm.symm.trans hon) nofun

theorem Reports.add_joins (hm : q.mask.getLsbD r.code = true) (hl : q.queue.length < 32) :
    q.add w r = { q with queue := q.queue ++ [⟨w, r⟩] } := by
  obtain ⟨hoff, -⟩ | ⟨-, -, e⟩ | ⟨-, hfull, -⟩ := q.add_cases w r
  · exact absurd (hm.symm.trans hoff) nofun
  · exact e
  · omega

theorem Reports.add_drops (hm : q.mask.getLsbD r.code = true) (hl : 32 ≤ q.queue.length) :
    q.add w r = { q with lost := bump 255 q.lost } := by
  obtain ⟨hoff, -⟩ | ⟨-, hroom, -⟩ | ⟨-, -, e⟩ := q.add_cases w r
  · exact absurd (hm.symm.trans hoff) nofun
  · omega
  · exact e

end Post

/-- Settles O18. The mask taken is `takenMask`, whose constant names the codes 1 to 23; `bump` is the count that stays at
255. -/
theorem reportsFetchedAndMasked : Obligations.ReportsFetchedAndMasked := by
  refine ⟨fun s h => ?fetch, fun s m h => ?mask, fun q w r hm => ?masked, fun q w r hm => ⟨fun hl => ?joins, fun hl => ?drops⟩⟩
  case fetch =>
    rw [exec_reportsFetch h, Reports.fields_eq]
    rfl
  case mask =>
    rw [exec_reportMaskSet h]
    rfl
  case masked => exact Reports.add_masked w r hm
  case joins => exact Reports.add_joins w r hm hl
  case drops =>
    rw [Reports.add_drops w r hm hl]
    rfl

end Sys2Proof.Machine
end
